-- ==== Sys2Proof/Word.lean ====
section
/-! DEFINITION. The words of the node: a character of the line, a stamp of the timebase, and the
distance from one stamp to another (00 §4.0, 06 R95). -/

namespace Sys2Proof

/-- One character of the line: its eight data bits (10 R158). -/
abbrev Byte := BitVec 8

/-- A stamp: a reading of the 32-bit microsecond timebase (06 R95). -/
abbrev Stamp := BitVec 32

/-- How far `later` lies ahead of `earlier`, modulo 2^32 (00 §4.0, "Stamps and their comparison"). -/
abbrev distance (earlier later : Stamp) : Nat := (later - earlier).toNat

end Sys2Proof
end

