-- ==== Sys2Proof/Config.lean ====
section
/-! DEFINITION. What an individual part fixes, and the values the manual leaves open. The sizes of the
stores are the Ligara A16's own; the opaque constants have no body, so nothing can be proved of their
values (log 3, 4, 7). -/

namespace Sys2Proof.Config

/-- The longest body of a frame (10 R159). -/
def maxBody : Nat := 240
/-- The most characters the frame buffer holds (10 R159, R162). -/
def maxFrame : Nat := 246
/-- The most waiting tickets (02 R33). -/
def maxTickets : Nat := 8
/-- The greatest ticket number (02 R33). -/
def topTicket : Nat := 127
/-- The capacity of the result FIFO (04 R69). -/
def fifoSize : Nat := 384
/-- The capacity of the capture log (06 R103). -/
def logSize : Nat := 32
/-- The capacity of the schedule table (07 R114). -/
def scheduleSize : Nat := 24
/-- The greatest handle (07 R114). -/
def topHandle : Nat := 255
/-- The capacity of the notice queue; its last place is kept for NOTICES_LOST (08 R129). -/
def noticeSize : Nat := 32
/-- Where every saturating 16-bit count stops (00 §4.0, "Saturating counts"). -/
def saturation : Nat := 65535
/-- The greatest distance that lies ahead: 2^31 - 1 µs (07 R117). -/
def window : Nat := 2147483647
/-- The least pass period or schedule period that is not 0 (01 R7, 07 R117). -/
def minPeriod : Nat := 100
/-- The greatest pass period or schedule period (01 R7, 07 R117). -/
def maxPeriod : Nat := 1000000000
/-- The stamp at which calibration ends: the timebase starts from 0 at every reset (03 R51). -/
def calibrationEnd : Stamp := 1500

/-- The part code of the Ligara A16 (09 R155). -/
def partCode : Nat := 0x0A16
/-- The revision this manual describes (09 R155). DEDUCED, log 7. -/
def revision : Nat := 2
/-- The 48-bit unit number, fixed at manufacture and different for every unit (09 R155). A free value,
log 7. -/
opaque unitNumber : BitVec 48

/-- What an analog input presents while a sample or a check reading is taken and no command has said
it: a free value for each number of the free counter (03 intro, log 4). -/
opaque analogLevel : Nat → BitVec 12
/-- Which of several events due at one stamp the node takes first when no command has said it: a free
value for each number of the free counter (00 §4.0 "Events", log 3). -/
opaque dueOrder : Nat → Nat

end Sys2Proof.Config
end

