-- ==== Sys2Proof/Syntax.lean ====
section
/-! DEFINITION. The commands: one constructor of Instr for each row of the opcode table, in the table's
order, with what the row's rule says the command carries. -/

namespace Sys2Proof

/-- A digital level: of a capture pin, an output line or an action (06 R97, R108). -/
inductive Level
  | low
  | high
  deriving DecidableEq, Repr

/-- What the seven strap pins read: the five address straps as the sum of their weights, and the rate
straps as twice strap A plus strap B (10 R157, 12 §12.7). -/
structure Straps where
  address : BitVec 5
  rate : BitVec 2
  deriving DecidableEq, Repr

/-- What a request command carries of its frame: the address character, the control character and the
body; the kind is the command's own, and the length and check characters follow from them
(12 §12.2, log 1). -/
structure Req where
  address : Byte
  control : Byte
  body : List Byte
  deriving DecidableEq, Repr

/-- The thirty-six kinds of request (09 §9.5). -/
inductive Kind
  | identify
  | echo
  | status
  | go
  | halt
  | restart
  | setSilence
  | mark
  | setChannel
  | convert
  | cancelConvert
  | writeSteps
  | readSteps
  | defineList
  | startList
  | stopList
  | listStatus
  | clearList
  | readLatest
  | readFifo
  | fifoStatus
  | clearFifo
  | setFifoLevel
  | setWatch
  | clearWatch
  | watchStatus
  | readStamp
  | setCapture
  | readCaptures
  | schedule
  | cancelAction
  | scheduleStatus
  | setOutput
  | setSafeLevels
  | outputStatus
  | poll
  deriving DecidableEq, Repr

/-- The commands of the node: its requests, and the events at its blocks, its pins and its line. -/
inductive Instr
  /-- POR (R170). -/
  | por (straps : Straps)
  /-- PIN_RESET (R170). -/
  | pinReset
  /-- PIN_RELEASE (R170). -/
  | pinRelease (straps : Straps)
  /-- CALIBRATION_END (R51). -/
  | calibrationEnd
  /-- GAP (R159). -/
  | gap
  /-- SENDING_START (R167). -/
  | sendingStart
  /-- SENDING_END (R168). -/
  | sendingEnd
  /-- IDENTIFY (R155). -/
  | identify (r : Req)
  /-- ECHO (R156). -/
  | echo (r : Req)
  /-- STATUS (R180). -/
  | status (r : Req)
  /-- GO (R172). -/
  | go (r : Req)
  /-- HALT (R173). -/
  | halt (r : Req)
  /-- RESTART (R178). -/
  | restart (r : Req)
  /-- SET_SILENCE (R177). -/
  | setSilence (r : Req)
  /-- MARK (R105). -/
  | mark (r : Req)
  /-- SET_CHANNEL (R49). -/
  | setChannel (r : Req)
  /-- CONVERT (R35). -/
  | convert (r : Req)
  /-- CANCEL_CONVERT (R45). -/
  | cancelConvert (r : Req)
  /-- WRITE_STEPS (R3). -/
  | writeSteps (r : Req)
  /-- READ_STEPS (R4). -/
  | readSteps (r : Req)
  /-- DEFINE_LIST (R7). -/
  | defineList (r : Req)
  /-- START_LIST (R25). -/
  | startList (r : Req)
  /-- STOP_LIST (R26). -/
  | stopList (r : Req)
  /-- LIST_STATUS (R28). -/
  | listStatus (r : Req)
  /-- CLEAR_LIST (R8). -/
  | clearList (r : Req)
  /-- READ_LATEST (R68). -/
  | readLatest (r : Req)
  /-- READ_FIFO (R74). -/
  | readFifo (r : Req)
  /-- FIFO_STATUS (R76). -/
  | fifoStatus (r : Req)
  /-- CLEAR_FIFO (R77). -/
  | clearFifo (r : Req)
  /-- SET_FIFO_LEVEL (R78). -/
  | setFifoLevel (r : Req)
  /-- SET_WATCH (R91). -/
  | setWatch (r : Req)
  /-- CLEAR_WATCH (R92). -/
  | clearWatch (r : Req)
  /-- WATCH_STATUS (R94). -/
  | watchStatus (r : Req)
  /-- READ_STAMP (R96). -/
  | readStamp (r : Req)
  /-- SET_CAPTURE (R99). -/
  | setCapture (r : Req)
  /-- READ_CAPTURES (R106). -/
  | readCaptures (r : Req)
  /-- SCHEDULE (R117). -/
  | schedule (r : Req)
  /-- CANCEL_ACTION (R123). -/
  | cancelAction (r : Req)
  /-- SCHEDULE_STATUS (R124). -/
  | scheduleStatus (r : Req)
  /-- SET_OUTPUT (R110). -/
  | setOutput (r : Req)
  /-- SET_SAFE_LEVELS (R111). -/
  | setSafeLevels (r : Req)
  /-- OUTPUT_STATUS (R113). -/
  | outputStatus (r : Req)
  /-- POLL (R132). -/
  | poll (r : Req)
  /-- CHECK_END (R53). -/
  | checkEnd (charged discharged : BitVec 12)
  /-- SETTLE_END (R54). -/
  | settleEnd
  /-- SAMPLE_END (R55). -/
  | sampleEnd (level : BitVec 12)
  /-- WAIT_EXPIRY (R14). -/
  | waitExpiry (list : Fin 8)
  /-- AWAIT_TIMEOUT (R16). -/
  | awaitTimeout (list : Fin 8)
  /-- REST_STAMP (R19). -/
  | restStamp (list : Fin 8)
  /-- CAPTURE_PIN_CHANGE (R100). -/
  | capturePinChange (input : Fin 4) (level : Level)
  /-- DEBOUNCE_END (R101). -/
  | debounceEnd (input : Fin 4)
  /-- ACTION_FIRING (R119). -/
  | actionFiring
  /-- SILENCE_EXPIRY (R176). -/
  | silenceExpiry
  /-- CHARACTER_COMPLETE (R158). -/
  | characterComplete (value : Byte) (stopAtMark : Bool)
  deriving DecidableEq, Repr

end Sys2Proof
end

