-- ==== Sys2Proof/Decode.lean ====
section
/-! DEFINITION. The command a table word spells. The opcode table gives no row any bits (every row's
"fields" is empty and none has "fixed"), so no word spells a command. Request frames have an encoding
of their own (chapter 12), which Machine/Operands.lean holds and the line uses. -/

namespace Sys2Proof

/-- The command whose table bits are `w`: none, since no row of the table has bits. -/
def decodeTableWord (_nbits _w : Nat) : Option Instr := none

end Sys2Proof
end

