-- ==== Sys2Proof/Machine/State.lean ====
section
/-! DEFINITION. The state of the node, block by block as the block diagram gives it (00 §2.3), and the
state right after a power-on reset. Everything is plain data. Counts are numbers; what wraps or is sent
as bits (stamps, result sequences, characters) is a bit vector. -/

namespace Sys2Proof.Machine

/-! ### Options, steps and lists (SE) -/

/-- The sampling mode (03 R48, R56). -/
inductive Mode
  | standard
  | fast
  deriving DecidableEq, Repr

/-- The number of samples averaged: 1, 2, 4, 8 or 16 (03 R48). -/
inductive Averaging
  | x1
  | x2
  | x4
  | x8
  | x16
  deriving DecidableEq, Repr

/-- The averaging as a count of samples. -/
def Averaging.count : Averaging → Nat
  | .x1 => 1
  | .x2 => 2
  | .x4 => 4
  | .x8 => 8
  | .x16 => 16

/-- An option group of a CONVERT step, a ticket or SET_CHANNEL: each field a value, or `none` for
DEFAULT or absent (01 R1, 02 R33, 03 R49). The input check is `true` for ON. -/
structure OptGroup where
  settle : Option Nat
  averaging : Option Averaging
  mode : Option Mode
  check : Option Bool
  deriving DecidableEq, Repr

/-- Options with every field given: a channel setting, or the effective options of a conversion
(03 R48, 02 R38). -/
structure Options where
  settle : Nat
  averaging : Averaging
  mode : Mode
  check : Bool
  deriving DecidableEq, Repr

/-- One record of the step memory (01 R1): the timeout of AWAIT is `none` for NONE. -/
inductive StepRecord
  | convert (channel : Fin 16) (options : OptGroup)
  | wait (duration : Nat)
  | await (input : Fin 4) (timeout : Option Nat)
  deriving DecidableEq, Repr

/-- The zones a channel can be judged to be in (05 R80). UNKNOWN, and NONE of a pending zone, are the
`none` of an `Option Zone`. -/
inductive Zone
  | below
  | inside
  | above
  deriving DecidableEq, Repr

/-- The source of a trigger: what a definition names, and what a delivered trigger comes from
(01 R5, §1.4). -/
inductive TriggerSource
  | host
  | capture (input : Fin 4)
  | schedule
  | watch (number : Fin 12) (zone : Zone)
  | listDone (list : Fin 8)
  deriving DecidableEq, Repr

/-- What a trigger does to a running list (01 R5, R23). -/
inductive Policy
  | ignore
  | restart
  | queueOne
  deriving DecidableEq, Repr

/-- The definition of a list (01 R5). -/
structure ListDef where
  firstStep : Nat
  stepCount : Nat
  source : TriggerSource
  passCount : Nat
  passPeriod : Nat
  policy : Policy
  level : Fin 4
  preemptible : Bool
  toFifo : Bool
  stopOnFull : Bool
  rearm : Bool
  notifyPass : Bool
  notifyEnd : Bool
  deriving DecidableEq, Repr

/-- The five states of a list (01 §1.3). -/
inductive ListState
  | undefined
  | ready
  | armed
  | active
  | resting
  deriving DecidableEq, Repr

/-- Why a run ended (01 §1.3.6). -/
inductive EndReason
  | completed
  | stopped
  | retriggered
  | fifoFull
  | awaitTimeout
  | nodeHalt
  | nodeSafe
  deriving DecidableEq, Repr

/-- One record of the list table (01 R6). `edgeWaiting` is the model's own mark: set only while an
accepted edge is being handled, on each list whose AWAIT step that edge may still finish
(R15, R24, log 10). -/
structure ListRecord where
  defn : Option ListDef
  state : ListState
  stepIndex : Nat
  passes : Nat
  runStart : Stamp
  passStart : Stamp
  stopPending : Bool
  triggerPending : Bool
  inFlight : Bool
  expiry : Option Stamp
  missed : Nat
  overruns : Nat
  preemptions : Nat
  endRecord : Option (EndReason × Stamp)
  edgeWaiting : Bool
  deriving DecidableEq, Repr

/-- A list record with a definition or none, and every other field as a reset leaves it (01 R6). -/
def ListRecord.fresh (d : Option ListDef) : ListRecord :=
  { defn := d, state := if d.isSome then .ready else .undefined, stepIndex := 0, passes := 0,
    runStart := 0, passStart := 0, stopPending := false, triggerPending := false, inFlight := false,
    expiry := none, missed := 0, overruns := 0, preemptions := 0, endRecord := none,
    edgeWaiting := false }

/-- The Scan Engine (01 R1, R6). -/
structure ScanEngine where
  steps : Vector StepRecord 128
  lists : Vector ListRecord 8
  deriving DecidableEq, Repr

/-! ### Tickets, grants and the converter (CA, CV) -/

/-- A ticket (02 R33). -/
structure Ticket where
  number : Nat
  channel : Fin 16
  options : OptGroup
  toFifo : Bool
  notify : Bool
  deriving DecidableEq, Repr

/-- Who owns the conversion in flight (02 R30): a list and the step index at its grant, or a ticket
with its flags. -/
inductive Owner
  | list (number : Fin 8) (step : Nat)
  | ticket (number : Nat) (toFifo notify : Bool)
  deriving DecidableEq, Repr

/-- The grant record, when it is not NONE (02 R30). -/
structure Grant where
  owner : Owner
  channel : Fin 16
  options : Options
  stamp : Stamp
  deriving DecidableEq, Repr

/-- The Conversion Arbiter (02 R30): the queue is oldest first. -/
structure Arbiter where
  queue : List Ticket
  pointers : Vector (Fin 8) 4
  grant : Option Grant
  nextTicket : Nat
  deriving DecidableEq, Repr

/-- The conversion context (03 R50). -/
structure Context where
  channel : Fin 16
  options : Options
  phaseEnd : Stamp
  charged : Option Nat
  discharged : Option Nat
  firstSample : Option Stamp
  samples : Nat
  sum : Nat
  highSeen : Bool
  lowSeen : Bool
  deriving DecidableEq, Repr

/-- The converter's state; a context is held in the three working states only (03 §3.2, R50). -/
inductive ConverterState
  | calibrating
  | idle
  | checking (ctx : Context)
  | settling (ctx : Context)
  | sampling (ctx : Context)
  deriving DecidableEq, Repr

/-- The Converter with the channel settings table (03 R48, R50). -/
structure Converter where
  state : ConverterState
  settings : Vector Options 16
  deriving DecidableEq, Repr

/-! ### Results and watches (RS, WU) -/

/-- Where a record came from (12 §12.3). -/
inductive Source
  | list (number : Fin 8) (step : Nat)
  | ticket (number : Nat)
  deriving DecidableEq, Repr

/-- The four flags of a record (03 R58, R59). -/
structure RecordFlags where
  openInput : Bool
  clipHigh : Bool
  clipLow : Bool
  fast : Bool
  deriving DecidableEq, Repr

/-- A result record (03 R60, 04 R65, 12 §12.3). -/
structure Record where
  seq : BitVec 16
  value : Nat
  stamp : Stamp
  channel : Fin 16
  flags : RecordFlags
  source : Source
  deriving DecidableEq, Repr

/-- A present entry of the latest table (04 R67). -/
structure LatestEntry where
  record : Record
  fresh : Bool
  deriving DecidableEq, Repr

/-- The Result Store (04 R64): the FIFO is oldest first. -/
structure ResultStore where
  nextSeq : BitVec 16
  latest : Vector (Option LatestEntry) 16
  fifo : List Record
  dropped : Nat
  level : Nat
  levelArmed : Bool
  fullArmed : Bool
  deriving DecidableEq, Repr

/-- An action record of a watch, when it is present (05 R79). -/
structure WatchAction where
  notify : Bool
  output : Option (Fin 4 × Level)
  deriving DecidableEq, Repr

/-- The definition of a watch (05 R79). -/
structure WatchDef where
  channel : Fin 16
  low : Nat
  high : Nat
  hysteresis : Nat
  confirm : Nat
  onBelow : Option WatchAction
  onInside : Option WatchAction
  onAbove : Option WatchAction
  deriving DecidableEq, Repr

/-- A defined entry of the watch table with its running state (05 R80): zone `none` is UNKNOWN,
pending `none` is NONE. -/
structure WatchEntry where
  defn : WatchDef
  zone : Option Zone
  pending : Option Zone
  count : Nat
  zoneSeq : Option (BitVec 16)
  deriving DecidableEq, Repr

/-- The running state a definition begins with: UNKNOWN, NONE, 0, NONE (05 R80, R91). -/
def WatchEntry.fresh (d : WatchDef) : WatchEntry :=
  { defn := d, zone := none, pending := none, count := 0, zoneSeq := none }

/-- The Watch Unit: an UNUSED entry is `none` (05 R79). -/
structure WatchUnit where
  watches : Vector (Option WatchEntry) 12
  deriving DecidableEq, Repr

/-! ### Timebase, capture inputs and output lines (TCU, OU) -/

/-- Which changes are candidate edges (06 R97). -/
inductive EdgeSelect
  | off
  | rising
  | falling
  | both
  deriving DecidableEq, Repr

/-- The direction of an edge (06 R97). -/
inductive Direction
  | rising
  | falling
  deriving DecidableEq, Repr

/-- One capture input: its settings, its settled level and its debounce context, the initial stamp and
the direction of a candidate edge (06 R97). -/
structure CaptureInput where
  edge : EdgeSelect
  debounce : Nat
  notify : Bool
  settled : Level
  context : Option (Stamp × Direction)
  deriving DecidableEq, Repr

/-- An entry of the capture log (06 R103). -/
inductive LogEntry
  | edge (input : Fin 4) (direction : Direction) (stamp : Stamp)
  | mark (stamp : Stamp)
  deriving DecidableEq, Repr

/-- The Timebase and Capture Unit, with the levels its four pins hold (06 R95, R97, R103). -/
structure Timebase where
  stamp : Stamp
  inputs : Vector CaptureInput 4
  pins : Vector Level 4
  log : List LogEntry
  dropped : Nat
  overflowArmed : Bool
  deriving DecidableEq, Repr

/-- Who last changed an output line (06 R108, R109). -/
inductive LineSource
  | reset
  | host
  | schedule (handle : Nat)
  | watch (number : Fin 12)
  | safe
  deriving DecidableEq, Repr

/-- The record of one output line (06 R108). -/
structure OutputLine where
  level : Level
  safe : Level
  source : LineSource
  stamp : Stamp
  deriving DecidableEq, Repr

/-- The Output Unit (06 R108). -/
structure OutputUnit where
  lines : Vector OutputLine 4
  deriving DecidableEq, Repr

/-! ### The schedule and the notice queue (SU, NQ) -/

/-- What a schedule entry does when it fires (07 R114). -/
inductive Action
  | setLine (line : Fin 4) (level : Level)
  | startList (list : Fin 8)
  deriving DecidableEq, Repr

/-- An entry of the schedule table (07 R114). -/
structure ScheduleEntry where
  handle : Nat
  due : Stamp
  action : Action
  period : Nat
  repeats : Nat
  notify : Bool
  deriving DecidableEq, Repr

/-- The Schedule Unit (07 R114): the table is nearest first. -/
structure ScheduleUnit where
  table : List ScheduleEntry
  nextHandle : Nat
  deriving DecidableEq, Repr

/-- What made the last reset (11 R170). -/
inductive ResetCause
  | power
  | pin
  | soft
  deriving DecidableEq, Repr

/-- The thirteen kinds of notice with their bodies (08 R127). -/
inductive NoticeBody
  | started (cause : ResetCause) (straps : Straps)
  | convertDone (ticket : Nat) (record : Record)
  | listPass (list : Fin 8) (passes : Nat)
  | listEnd (list : Fin 8) (reason : EndReason) (passes missed overruns preemptions : Nat)
  | listOverrun (list : Fin 8) (passes lateness : Nat)
  | watchZone (watch : Fin 12) (channel : Fin 16) (old new : Option Zone) (initial : Bool)
      (value : Nat) (seq : BitVec 16)
  | captureEvent (input : Fin 4) (direction : Direction)
  | captureOverflow
  | fifoLevel (fill : Nat)
  | fifoFull
  | actionFired (handle : Nat) (action : Action) (repeats : Nat)
  | safeEntered (mask : Nat) (dropped : Nat)
  | noticesLost (count : Nat) (first : Stamp)
  deriving DecidableEq, Repr

/-- A queued notice (08 R126). -/
structure Notice where
  seq : Nat
  stamp : Stamp
  body : NoticeBody
  delivered : Bool
  deriving DecidableEq, Repr

/-- The lost-notice record (08 R131). -/
structure LostRecord where
  lost : Nat
  first : Stamp
  carried : Nat
  firstUncarried : Option Stamp
  deriving DecidableEq, Repr

/-- The Notice Queue (08 R128): oldest first. -/
structure NoticeQueue where
  notices : List Notice
  nextSeq : Nat
  lost : Option LostRecord
  deriving DecidableEq, Repr

/-! ### Requests and the line (RH, LI) -/

/-- A frame as its fields (12 §12.2); the length field is the length of the body. -/
structure Frame where
  address : Byte
  control : Byte
  kind : Byte
  body : List Byte
  crc : BitVec 16
  deriving DecidableEq, Repr

/-- The two phases of a request in hand (09 R142). -/
inductive Phase
  | executing
  | replying
  deriving DecidableEq, Repr

/-- The reply cache, when it is not EMPTY (09 R142). -/
structure CacheEntry where
  seq : BitVec 4
  crc : BitVec 16
  reply : Frame
  deriving DecidableEq, Repr

/-- The Request Handler (09 R142). -/
structure RequestHandler where
  inHand : Option (Frame × Phase)
  cache : Option CacheEntry
  deriving DecidableEq, Repr

/-- The receiver's five states, and `off` for the time the transmitter sends, when it is in none of
them (10 §10.3). The frame buffer is held in RECEIVING only. -/
inductive Receiver
  | syncing
  | ready
  | receiving (buffer : List Byte)
  | skipping
  | discarding
  | off
  deriving DecidableEq, Repr

/-- The transmitter's three states (10 §10.4). -/
inductive Transmitter
  | idle
  | turnaround (reply : Frame)
  | sending (reply : Frame)
  deriving DecidableEq, Repr

/-- The six line counters (10 R169). -/
structure LineCounters where
  good : Nat
  check : Nat
  framing : Nat
  malformed : Nat
  overrun : Nat
  ignored : Nat
  deriving DecidableEq, Repr

/-- The Line Interface (10 R157, R161, R169). -/
structure LineInterface where
  straps : Straps
  rx : Receiver
  tx : Transmitter
  counters : LineCounters
  deriving DecidableEq, Repr

/-! ### The node (NC, and the whole) -/

/-- The node state (11 R170). -/
inductive NodeState
  | standby
  | run
  | safe
  deriving DecidableEq, Repr

/-- The Node Controller (11 R170): the timer is `none` when stopped, else its expiry stamp. -/
structure NodeController where
  state : NodeState
  cause : ResetCause
  silence : Nat
  timer : Option Stamp
  restartPending : Bool
  deriving DecidableEq, Repr

/-- The node: its twelve blocks, whether the reset pin is driven (11 R170), the model's counter of free
values (log 4) and the queue of commands that wait, first in, first out. -/
structure State where
  se : ScanEngine
  ca : Arbiter
  cv : Converter
  rs : ResultStore
  wu : WatchUnit
  tcu : Timebase
  ou : OutputUnit
  su : ScheduleUnit
  nq : NoticeQueue
  rh : RequestHandler
  li : LineInterface
  nc : NodeController
  resetHeld : Bool
  free : Nat
  pending : List Instr
  deriving DecidableEq, Repr

/-- Why a step could stop. The spec stops the node nowhere, so there is no fault: nobody raises one.
This is safe and is no loss: a frame that fails a check is counted, a request that fails one is refused
by a reply frame, and both are effects on State. -/
inductive Fault
  deriving DecidableEq, Repr

/-- Why a command could be refused. -/
inductive Refusal
  /-- Raised by an arm of exec whose command has no meaning yet; no arm answers it now. Safe: it stops
  where the node would go on. -/
  | notModelled (mnemonic : String)
  deriving DecidableEq, Repr

/-! ### Reset values -/

/-- Every step after a POR or PIN reset: CONVERT on channel 0, every option DEFAULT (01 R2). -/
def StepRecord.reset : StepRecord :=
  .convert 0 { settle := none, averaging := none, mode := none, check := none }

/-- SE after a POR or PIN reset (01 R2, R6). -/
def ScanEngine.reset : ScanEngine :=
  { steps := Vector.replicate 128 .reset, lists := Vector.replicate 8 (.fresh none) }

/-- CA after every reset (02 R30). -/
def Arbiter.reset : Arbiter :=
  { queue := [], pointers := Vector.replicate 4 7, grant := none, nextTicket := 1 }

/-- A channel setting after a POR or PIN reset (03 R48). -/
def Options.reset : Options :=
  { settle := 10, averaging := .x1, mode := .standard, check := false }

/-- CV after a POR or PIN reset (03 R48, R51). -/
def Converter.reset : Converter :=
  { state := .calibrating, settings := Vector.replicate 16 .reset }

/-- RS after a POR or PIN reset; after a SOFT reset the level is kept (04 R64). -/
def ResultStore.reset (level : Nat) : ResultStore :=
  { nextSeq := 1, latest := Vector.replicate 16 none, fifo := [], dropped := 0, level := level,
    levelArmed := true, fullArmed := true }

/-- WU after a POR or PIN reset (05 R80). -/
def WatchUnit.reset : WatchUnit := { watches := Vector.replicate 12 none }

/-- A capture input after a POR or PIN reset, its settled level still to be taken from the pin
(06 R98). -/
def CaptureInput.reset : CaptureInput :=
  { edge := .off, debounce := 0, notify := false, settled := .low, context := none }

/-- An output line after a POR or PIN reset (06 R108). -/
def OutputLine.reset : OutputLine := { level := .low, safe := .low, source := .reset, stamp := 0 }

/-- OU after a POR or PIN reset (06 R108). -/
def OutputUnit.reset : OutputUnit := { lines := Vector.replicate 4 .reset }

/-- SU after every reset (07 R114). -/
def ScheduleUnit.reset : ScheduleUnit := { table := [], nextHandle := 1 }

/-- NQ while a reset holds: emptied, before STARTED is raised (08 R128). -/
def NoticeQueue.reset : NoticeQueue := { notices := [], nextSeq := 1, lost := none }

/-- All six counters 0 (10 R169). -/
def LineCounters.reset : LineCounters :=
  { good := 0, check := 0, framing := 0, malformed := 0, overrun := 0, ignored := 0 }

/-- The straps State.reset takes as read: address 4 and 115,200 bit/s, the node of chapter 13.
DESIGN CHOICE, log 5. -/
def strapsAtReset : Straps := { address := 4, rate := 2 }

/-- The machine right after a power-on reset with those straps and every capture pin LOW (log 5, 6):
every block at its POR values, in STANDBY with cause POWER, calibrating, SYNCING, with STARTED
undelivered in the notice queue (11 R170, 08 R128). -/
def State.reset : State :=
  { se := .reset, ca := .reset, cv := .reset, rs := .reset 0, wu := .reset,
    tcu := { stamp := 0, inputs := Vector.replicate 4 .reset, pins := Vector.replicate 4 .low,
             log := [], dropped := 0, overflowArmed := true },
    ou := .reset, su := .reset,
    nq := { notices := [{ seq := 1, stamp := 0, body := .started .power strapsAtReset, delivered := false }],
            nextSeq := 2, lost := none },
    rh := { inHand := none, cache := none },
    li := { straps := strapsAtReset, rx := .syncing, tx := .idle, counters := .reset },
    nc := { state := .standby, cause := .power, silence := 0, timer := none, restartPending := false },
    resetHeld := false, free := 0, pending := [] }

end Sys2Proof.Machine
end

