-- ==== Sys2Proof/Machine/Operands.lean ====
section
/-! DEFINITION. The layouts of chapter 12: how fields stand in a body, a record and a frame, how they
are read and checked, and how they are sent; and the check of a frame (10 R160). A reader of a body
answers the detail byte of the first offending field, one more than that field's offset (12 R182), or
the value read. -/

namespace Sys2Proof.Machine

/-! ### Bytes, flags and numbers (12 R181) -/

/-- The number a byte of a body holds. A body whose length has been checked has every byte read. -/
def byteAt (b : List Byte) (i : Nat) : Nat := (b.getD i 0).toNat

/-- A two-byte field, high byte first (00 §4.0). -/
def wordAt (b : List Byte) (i : Nat) : Nat := byteAt b i * 256 + byteAt b (i + 1)

/-- A four-byte field, high byte first. -/
def longAt (b : List Byte) (i : Nat) : Nat := wordAt b i * 65536 + wordAt b (i + 2)

/-- Bit `k` of a number. -/
def bitOf (n k : Nat) : Bool := n.testBit k

/-- The `w` bits of `n` from bit `k` up. -/
def bitsOf (n k w : Nat) : Nat := n / 2 ^ k % 2 ^ w

/-- A one-byte field as sent. -/
def u8 (n : Nat) : List Byte := [BitVec.ofNat 8 n]

/-- A two-byte field as sent, high byte first. -/
def u16 (n : Nat) : List Byte := [BitVec.ofNat 8 (n / 256), BitVec.ofNat 8 n]

/-- A four-byte field as sent, high byte first. -/
def u32 (n : Nat) : List Byte := u16 (n / 65536) ++ u16 n

/-- A six-byte field as sent, high byte first. -/
def u48 (n : Nat) : List Byte := u16 (n / 4294967296) ++ u32 n

/-- A flag as a number: 1 for set, 0 for clear. -/
def flag (b : Bool) : Nat := if b then 1 else 0

/-- A number below `n`, or `none` for one out of range. -/
def below (n k : Nat) : Option (Fin n) := if h : k < n then some ⟨k, h⟩ else none

/-- A count that saturates at 65,535 (00 §4.0). -/
def saturate (n : Nat) : Nat := min n Config.saturation

/-- The numbers of the eight lists, in increasing order. -/
def allLists : List (Fin 8) := [0, 1, 2, 3, 4, 5, 6, 7]

/-- The numbers of the four capture inputs, lines or levels, in increasing order. -/
def allFour : List (Fin 4) := [0, 1, 2, 3]

/-- The numbers of the twelve watches, in increasing order. -/
def allWatches : List (Fin 12) := [0, 1, 2, 3, 4, 5, 6, 7, 8, 9, 10, 11]

/-- The numbers of the sixteen channels, in increasing order. -/
def allChannels : List (Fin 16) := [0, 1, 2, 3, 4, 5, 6, 7, 8, 9, 10, 11, 12, 13, 14, 15]

/-- The vector whose entry `i` is `f i`. -/
def vecOf {α : Type} {n : Nat} (f : Fin n → α) : Vector α n :=
  Vector.mk (Array.mk (List.ofFn f)) (by simp)

/-! ### Codes (12 §12.7) -/

/-- The reasons for a refusal (09 R146). -/
inductive Reason
  | length
  | kind
  | field
  | state
  | busy
  | full
  | absent
  | late
  deriving DecidableEq, Repr

/-- reason: 1 LENGTH, 2 KIND, 3 FIELD, 4 STATE, 5 BUSY, 6 FULL, 7 ABSENT, 8 LATE. -/
def Reason.code : Reason → Nat
  | .length => 1
  | .kind => 2
  | .field => 3
  | .state => 4
  | .busy => 5
  | .full => 6
  | .absent => 7
  | .late => 8

/-- node state: 0 STANDBY, 1 RUN, 2 SAFE. -/
def NodeState.code : NodeState → Nat
  | .standby => 0
  | .run => 1
  | .safe => 2

/-- reset cause: 1 POWER, 2 PIN, 3 SOFT. -/
def ResetCause.code : ResetCause → Nat
  | .power => 1
  | .pin => 2
  | .soft => 3

/-- converter state: 0 CALIBRATING, 1 IDLE, 2 CHECKING, 3 SETTLING, 4 SAMPLING. -/
def ConverterState.code : ConverterState → Nat
  | .calibrating => 0
  | .idle => 1
  | .checking _ => 2
  | .settling _ => 3
  | .sampling _ => 4

/-- list state: 0 UNDEFINED, 1 READY, 2 ARMED, 3 ACTIVE, 4 RESTING. -/
def ListState.code : ListState → Nat
  | .undefined => 0
  | .ready => 1
  | .armed => 2
  | .active => 3
  | .resting => 4

/-- end reason: 1 COMPLETED, 2 STOPPED, 3 RETRIGGERED, 4 FIFO_FULL, 5 AWAIT_TIMEOUT, 6 NODE_HALT,
7 NODE_SAFE; 0 is NONE. -/
def EndReason.code : EndReason → Nat
  | .completed => 1
  | .stopped => 2
  | .retriggered => 3
  | .fifoFull => 4
  | .awaitTimeout => 5
  | .nodeHalt => 6
  | .nodeSafe => 7

/-- zone: 0 UNKNOWN (as pending zone: NONE), 1 BELOW, 2 INSIDE, 3 ABOVE. -/
def zoneCode : Option Zone → Nat
  | none => 0
  | some .below => 1
  | some .inside => 2
  | some .above => 3

/-- The zone a code names; 0 names none of the three. -/
def zoneOf : Nat → Option Zone
  | 1 => some .below
  | 2 => some .inside
  | 3 => some .above
  | _ => none

/-- policy: 0 IGNORE, 1 RESTART, 2 QUEUE_ONE. -/
def Policy.code : Policy → Nat
  | .ignore => 0
  | .restart => 1
  | .queueOne => 2

/-- The policy a code names. -/
def policyOf : Nat → Option Policy
  | 0 => some .ignore
  | 1 => some .restart
  | 2 => some .queueOne
  | _ => none

/-- mode: 0 DEFAULT, 1 STANDARD, 2 FAST. -/
def modeCode : Option Mode → Nat
  | none => 0
  | some .standard => 1
  | some .fast => 2

/-- The mode a code names; the outer `none` is a code with no meaning. -/
def modeOf : Nat → Option (Option Mode)
  | 0 => some none
  | 1 => some (some .standard)
  | 2 => some (some .fast)
  | _ => none

/-- input check: 0 DEFAULT, 1 OFF, 2 ON. -/
def checkCode : Option Bool → Nat
  | none => 0
  | some false => 1
  | some true => 2

/-- The input check a code names; the outer `none` is a code with no meaning. -/
def checkOf : Nat → Option (Option Bool)
  | 0 => some none
  | 1 => some (some false)
  | 2 => some (some true)
  | _ => none

/-- averaging in an option group: 1, 2, 4, 8, 16, or 0 for DEFAULT (12 §12.3). -/
def averagingCode : Option Averaging → Nat
  | none => 0
  | some a => a.count

/-- The averaging a byte names; the outer `none` is any other count. -/
def averagingOf : Nat → Option (Option Averaging)
  | 0 => some none
  | 1 => some (some .x1)
  | 2 => some (some .x2)
  | 4 => some (some .x4)
  | 8 => some (some .x8)
  | 16 => some (some .x16)
  | _ => none

/-- edge select: 1 OFF, 2 RISING, 3 FALLING, 4 BOTH. -/
def EdgeSelect.code : EdgeSelect → Nat
  | .off => 1
  | .rising => 2
  | .falling => 3
  | .both => 4

/-- The edge select a code names, 0 for absent; the outer `none` is a code with no meaning. -/
def edgeSelectOf : Nat → Option (Option EdgeSelect)
  | 0 => some none
  | 1 => some (some .off)
  | 2 => some (some .rising)
  | 3 => some (some .falling)
  | 4 => some (some .both)
  | _ => none

/-- capture notify: 1 off, 2 on. -/
def captureNotifyCode (b : Bool) : Nat := if b then 2 else 1

/-- The capture notify a code names, 0 for absent; the outer `none` is a code with no meaning. -/
def captureNotifyOf : Nat → Option (Option Bool)
  | 0 => some none
  | 1 => some (some false)
  | 2 => some (some true)
  | _ => none

/-- direction: 1 RISING, 2 FALLING. -/
def Direction.code : Direction → Nat
  | .rising => 1
  | .falling => 2

end Sys2Proof.Machine

/-- level: 1 LOW, 2 HIGH (12 §12.7). -/
def Sys2Proof.Level.code : Sys2Proof.Level → Nat
  | .low => 1
  | .high => 2

namespace Sys2Proof.Machine

/-- The level a code names. -/
def levelOf : Nat → Option Level
  | 1 => some .low
  | 2 => some .high
  | _ => none

/-- output source: 0 RESET, 1 HOST, 2 SCHEDULE, 3 WATCH, 4 SAFE, and then the handle or watch number,
else 0 (12 §12.6, OUTPUT_STATUS). -/
def lineSourceBytes : LineSource → List Byte
  | .reset => u8 0 ++ u8 0
  | .host => u8 1 ++ u8 0
  | .schedule h => u8 2 ++ u8 h
  | .watch w => u8 3 ++ u8 w
  | .safe => u8 4 ++ u8 0

/-- schedule kind: 1 SET_LINE, 2 START_LIST. -/
def Action.code : Action → Nat
  | .setLine _ _ => 1
  | .startList _ => 2

/-- line rate: twice strap A plus strap B. -/
def rateCode (t : Straps) : Nat := t.rate.toNat

/-! ### The option group and the step record (12 §12.3, §12.4) -/

/-- Reads and checks the option group at offset `o`: a settle of 0 where it is given, an averaging of
another count, a mode or input check code of 3 (01 R3, 02 R35, 03 R49). -/
def parseOptGroup (b : List Byte) (o : Nat) : Except Nat OptGroup :=
  let given := bitOf (byteAt b (o + 2)) 4
  if given && byteAt b o == 0 then .error (o + 1)
  else match averagingOf (byteAt b (o + 1)) with
    | none => .error (o + 2)
    | some avg => match modeOf (bitsOf (byteAt b (o + 2)) 0 2) with
      | none => .error (o + 3)
      | some mode => match checkOf (bitsOf (byteAt b (o + 2)) 2 2) with
        | none => .error (o + 3)
        | some check =>
          .ok { settle := if given then some (byteAt b o) else none, averaging := avg, mode := mode,
                check := check }

/-- An option group as sent; a settle that is not given is sent as 0 (12 §12.1). -/
def optGroupBytes (g : OptGroup) : List Byte :=
  u8 (g.settle.getD 0) ++ u8 (averagingCode g.averaging)
    ++ u8 (modeCode g.mode + 4 * checkCode g.check + 16 * flag g.settle.isSome)

/-- Options as an option group with every field given (12 §12.3). -/
def Options.group (x : Options) : OptGroup :=
  { settle := some x.settle, averaging := some x.averaging, mode := some x.mode,
    check := some x.check }

/-- Reads and checks the step record at offset `o` (12 §12.4, 01 R3). -/
def parseStep (b : List Byte) (o : Nat) : Except Nat StepRecord :=
  match bitsOf (byteAt b o) 6 2 with
  | 0 => (parseOptGroup b (o + 1)).map fun g =>
      .convert ⟨bitsOf (byteAt b o) 0 4, Nat.mod_lt _ (by decide)⟩ g
  | 1 => if wordAt b (o + 1) == 0 then .error (o + 2) else .ok (.wait (wordAt b (o + 1)))
  | 2 => .ok (.await ⟨bitsOf (byteAt b o) 0 2, Nat.mod_lt _ (by decide)⟩
      (if wordAt b (o + 1) == 0 then none else some (wordAt b (o + 1))))
  | _ => .error (o + 1)

/-- A step record as sent (12 §12.4). -/
def stepBytes : StepRecord → List Byte
  | .convert c g => u8 c.val ++ optGroupBytes g
  | .wait d => u8 64 ++ u16 d ++ u8 0
  | .await k t => u8 (128 + k.val) ++ u16 (t.getD 0) ++ u8 0

/-- Reads `n` step records from offset `o` on, stopping at the first offending field (01 R3). -/
def parseSteps (b : List Byte) : (o n : Nat) → Except Nat (List StepRecord)
  | _, 0 => .ok []
  | o, n + 1 => match parseStep b o with
    | .error d => .error d
    | .ok r => (parseSteps b (o + 4) n).map (r :: ·)

/-! ### The definitions of a list and of a watch (12 §12.6) -/

/-- The trigger type and parameter bytes of a source; a parameter that is not read is sent as 0. -/
def sourceBytes : TriggerSource → List Byte
  | .host => u8 0 ++ u8 0
  | .capture k => u8 1 ++ u8 k.val
  | .schedule => u8 2 ++ u8 0
  | .watch w z => u8 3 ++ u8 (w.val + 16 * zoneCode (some z))
  | .listDone m => u8 4 ++ u8 m.val

/-- Reads a trigger source from its type and parameter: the outer `none` is an unknown type, the inner
a parameter out of range, a zone other than the three among them (01 R7). -/
def sourceOf (type param : Nat) : Option (Option TriggerSource) :=
  match type with
  | 0 => some (some .host)
  | 1 => some ((below 4 param).map .capture)
  | 2 => some (some .schedule)
  | 3 => some ((below 12 (bitsOf param 0 4)).bind fun w =>
      (zoneOf (bitsOf param 4 2)).map fun z => .watch w z)
  | 4 => some ((below 8 param).map .listDone)
  | _ => none

/-- Whether a period is 0 or 100 to 1,000,000,000 µs (01 R5, 07 R114). -/
def periodOk (p : Nat) : Bool := p == 0 || (Config.minPeriod ≤ p && p ≤ Config.maxPeriod)

/-- Reads and checks the definition at offset 1 of a DEFINE_LIST body for list `k`, field by field in
order of offset (01 R7, 12 R182). A sum of first step and step count above 128 is charged to the step
count, and a LIST_DONE naming the list itself to the trigger parameter, each the later of its two. -/
def parseListDef (b : List Byte) (k : Fin 8) : Except Nat ListDef :=
  let first := byteAt b 1
  let count := byteAt b 2
  let flags := byteAt b 13
  if 127 < first then .error 2
  else if count == 0 || 128 < count || 128 < first + count then .error 3
  else match sourceOf (byteAt b 3) (byteAt b 4) with
    | none => .error 4
    | some none => .error 5
    | some (some src) =>
      if src == .listDone k then .error 5
      else if !periodOk (longAt b 7) then .error 8
      else match policyOf (byteAt b 11) with
        | none => .error 12
        | some policy => match below 4 (byteAt b 12) with
          | none => .error 13
          | some level =>
            .ok { firstStep := first, stepCount := count, source := src, passCount := wordAt b 5,
                  passPeriod := longAt b 7, policy := policy, level := level,
                  preemptible := bitOf flags 0, toFifo := bitOf flags 1, stopOnFull := bitOf flags 2,
                  rearm := bitOf flags 3, notifyPass := bitOf flags 4, notifyEnd := bitOf flags 5 }

/-- A list definition as sent, 13 bytes. -/
def listDefBytes (d : ListDef) : List Byte :=
  u8 d.firstStep ++ u8 d.stepCount ++ sourceBytes d.source ++ u16 d.passCount ++ u32 d.passPeriod
    ++ u8 d.policy.code ++ u8 d.level.val
    ++ u8 (flag d.preemptible + 2 * flag d.toFifo + 4 * flag d.stopOnFull + 8 * flag d.rearm
        + 16 * flag d.notifyPass + 32 * flag d.notifyEnd)

/-- Reads an action record byte: `none` for a line or level out of range (05 R91). The output line bits
are not read when there is no output action, and nothing is read when the record is absent. -/
def parseWatchAction (n : Nat) : Option (Option WatchAction) :=
  if !bitOf n 0 then some none
  else match bitsOf n 5 2 with
    | 0 => some (some { notify := bitOf n 1, output := none })
    | c => match below 4 (bitsOf n 2 3), levelOf c with
      | some line, some level => some (some { notify := bitOf n 1, output := some (line, level) })
      | _, _ => none

/-- An action record as sent. -/
def watchActionByte : Option WatchAction → Nat
  | none => 0
  | some a => 1 + 2 * flag a.notify + (match a.output with
      | none => 0
      | some (line, level) => 4 * line.val + 32 * level.code)

/-- Reads and checks the definition at offset 1 of a SET_WATCH body (05 R79, R91). A low limit not less
than the high limit is charged to the high limit, and a hysteresis too large for the limits to the
hysteresis (12 R182). -/
def parseWatchDef (b : List Byte) : Except Nat WatchDef :=
  let low := wordAt b 2
  let high := wordAt b 4
  let hyst := wordAt b 6
  let confirm := byteAt b 8
  match below 16 (byteAt b 1) with
  | none => .error 2
  | some channel =>
    if 4095 < low then .error 3
    else if 4095 < high || high ≤ low then .error 5
    else if (high - low) / 2 < hyst then .error 7
    else if confirm == 0 || 15 < confirm then .error 9
    else match parseWatchAction (byteAt b 9) with
      | none => .error 10
      | some onBelow => match parseWatchAction (byteAt b 10) with
        | none => .error 11
        | some onInside => match parseWatchAction (byteAt b 11) with
          | none => .error 12
          | some onAbove =>
            .ok { channel := channel, low := low, high := high, hysteresis := hyst,
                  confirm := confirm, onBelow := onBelow, onInside := onInside, onAbove := onAbove }

/-- A watch definition as sent, 11 bytes. -/
def watchDefBytes (d : WatchDef) : List Byte :=
  u8 d.channel.val ++ u16 d.low ++ u16 d.high ++ u16 d.hysteresis ++ u8 d.confirm
    ++ u8 (watchActionByte d.onBelow) ++ u8 (watchActionByte d.onInside)
    ++ u8 (watchActionByte d.onAbove)

/-! ### Records and notices (12 §12.3, §12.4, §12.8) -/

/-- A record's flags: bit 0 OPEN, bit 1 CLIP_HIGH, bit 2 CLIP_LOW, bit 3 FAST. -/
def recordFlagsByte (f : RecordFlags) : Nat :=
  flag f.openInput + 2 * flag f.clipHigh + 4 * flag f.clipLow + 8 * flag f.fast

/-- The source class and the step index or ticket number. -/
def recordSourceBytes : Source → List Byte
  | .list k step => u8 k.val ++ u8 step
  | .ticket n => u8 0x80 ++ u8 n

/-- A result record as sent, 12 bytes. -/
def recordBytes (r : Record) : List Byte :=
  u16 r.seq.toNat ++ u16 r.value ++ u32 r.stamp.toNat ++ u8 r.channel.val
    ++ u8 (recordFlagsByte r.flags) ++ recordSourceBytes r.source

/-- A capture log entry as sent, 6 bytes: input 4 and direction 0 for MARK. -/
def logEntryBytes : LogEntry → List Byte
  | .edge k d t => u8 k.val ++ u8 d.code ++ u32 t.toNat
  | .mark t => u8 4 ++ u8 0 ++ u32 t.toNat

/-- A schedule entry as sent, 15 bytes: the level is 0 for START_LIST. -/
def scheduleEntryBytes (e : ScheduleEntry) : List Byte :=
  u8 e.handle ++ u8 e.action.code
    ++ (match e.action with
        | .setLine line level => u8 line.val ++ u8 level.code
        | .startList k => u8 k.val ++ u8 0)
    ++ u32 e.due.toNat ++ u32 e.period ++ u16 e.repeats ++ u8 (flag e.notify)

/-- The kind code of a notice. -/
def NoticeBody.code : NoticeBody → Nat
  | .started .. => 1
  | .convertDone .. => 2
  | .listPass .. => 3
  | .listEnd .. => 4
  | .listOverrun .. => 5
  | .watchZone .. => 6
  | .captureEvent .. => 7
  | .captureOverflow => 8
  | .fifoLevel .. => 9
  | .fifoFull => 10
  | .actionFired .. => 11
  | .safeEntered .. => 12
  | .noticesLost .. => 13

/-- The body of a notice as sent (12 §12.8). -/
def NoticeBody.bytes : NoticeBody → List Byte
  | .started cause straps => u8 cause.code ++ u8 straps.address.toNat ++ u8 (rateCode straps)
  | .convertDone n r => u8 n ++ recordBytes r
  | .listPass k passes => u8 k.val ++ u16 passes
  | .listEnd k reason passes missed overruns preemptions =>
    u8 k.val ++ u8 reason.code ++ u16 passes ++ u16 missed ++ u16 overruns ++ u16 preemptions
  | .listOverrun k passes lateness => u8 k.val ++ u16 passes ++ u32 lateness
  | .watchZone w c old new initial value seq =>
    u8 w.val ++ u8 c.val ++ u8 (zoneCode old) ++ u8 (zoneCode new) ++ u8 (flag initial)
      ++ u16 value ++ u16 seq.toNat
  | .captureEvent k d => u8 k.val ++ u8 d.code
  | .captureOverflow => []
  | .fifoLevel fill => u16 fill
  | .fifoFull => []
  | .actionFired h a repeats => u8 h ++ u8 a.code ++ u16 repeats
  | .safeEntered mask dropped => u8 mask ++ u8 dropped
  | .noticesLost count first => u16 count ++ u32 first.toNat

/-- A notice record as a POLL reply carries it: sequence, kind, delivered flag with body length, stamp,
body. -/
def noticeBytes (n : Notice) : List Byte :=
  u16 n.seq ++ u8 n.body.code ++ u8 (128 * flag n.delivered + n.body.bytes.length)
    ++ u32 n.stamp.toNat ++ n.body.bytes

/-! ### Kinds and body lengths (12 §12.5, R182) -/

/-- The code of a request kind. -/
def kindCode : Kind → Byte
  | .identify => 0x01
  | .echo => 0x02
  | .status => 0x03
  | .go => 0x04
  | .halt => 0x05
  | .restart => 0x06
  | .setSilence => 0x07
  | .mark => 0x08
  | .setChannel => 0x10
  | .convert => 0x11
  | .cancelConvert => 0x12
  | .writeSteps => 0x20
  | .readSteps => 0x21
  | .defineList => 0x22
  | .startList => 0x23
  | .stopList => 0x24
  | .listStatus => 0x25
  | .clearList => 0x26
  | .readLatest => 0x30
  | .readFifo => 0x31
  | .fifoStatus => 0x32
  | .clearFifo => 0x33
  | .setFifoLevel => 0x34
  | .setWatch => 0x40
  | .clearWatch => 0x41
  | .watchStatus => 0x42
  | .readStamp => 0x50
  | .setCapture => 0x51
  | .readCaptures => 0x52
  | .schedule => 0x53
  | .cancelAction => 0x54
  | .scheduleStatus => 0x55
  | .setOutput => 0x56
  | .setSafeLevels => 0x57
  | .outputStatus => 0x58
  | .poll => 0x60

/-- The kind a code names; any other code is unknown (09 R144). -/
def kindOf (c : Byte) : Option Kind :=
  match c.toNat with
  | 0x01 => some .identify
  | 0x02 => some .echo
  | 0x03 => some .status
  | 0x04 => some .go
  | 0x05 => some .halt
  | 0x06 => some .restart
  | 0x07 => some .setSilence
  | 0x08 => some .mark
  | 0x10 => some .setChannel
  | 0x11 => some .convert
  | 0x12 => some .cancelConvert
  | 0x20 => some .writeSteps
  | 0x21 => some .readSteps
  | 0x22 => some .defineList
  | 0x23 => some .startList
  | 0x24 => some .stopList
  | 0x25 => some .listStatus
  | 0x26 => some .clearList
  | 0x30 => some .readLatest
  | 0x31 => some .readFifo
  | 0x32 => some .fifoStatus
  | 0x33 => some .clearFifo
  | 0x34 => some .setFifoLevel
  | 0x40 => some .setWatch
  | 0x41 => some .clearWatch
  | 0x42 => some .watchStatus
  | 0x50 => some .readStamp
  | 0x51 => some .setCapture
  | 0x52 => some .readCaptures
  | 0x53 => some .schedule
  | 0x54 => some .cancelAction
  | 0x55 => some .scheduleStatus
  | 0x56 => some .setOutput
  | 0x57 => some .setSafeLevels
  | 0x58 => some .outputStatus
  | 0x60 => some .poll
  | _ => none

/-- Whether a body has the length its kind calls for: a fixed length, or for WRITE_STEPS and SCHEDULE
the length that the count or kind byte gives as sent; any length for ECHO (09 R145, 12 R182). -/
def bodyLengthOk (k : Kind) (b : List Byte) : Bool :=
  match k with
  | .echo => true
  | .writeSteps => 2 ≤ b.length && b.length == 2 + 4 * byteAt b 1
  | .schedule => 1 ≤ b.length && b.length == (if byteAt b 0 == 1 then 14 else 13)
  | .identify => b.length == 0
  | .status => b.length == 0
  | .go => b.length == 0
  | .halt => b.length == 0
  | .restart => b.length == 0
  | .setSilence => b.length == 2
  | .mark => b.length == 0
  | .setChannel => b.length == 5
  | .convert => b.length == 5
  | .cancelConvert => b.length == 1
  | .readSteps => b.length == 2
  | .defineList => b.length == 14
  | .startList => b.length == 1
  | .stopList => b.length == 2
  | .listStatus => b.length == 1
  | .clearList => b.length == 1
  | .readLatest => b.length == 2
  | .readFifo => b.length == 1
  | .fifoStatus => b.length == 0
  | .clearFifo => b.length == 0
  | .setFifoLevel => b.length == 2
  | .setWatch => b.length == 12
  | .clearWatch => b.length == 1
  | .watchStatus => b.length == 2
  | .readStamp => b.length == 0
  | .setCapture => b.length == 5
  | .readCaptures => b.length == 1
  | .cancelAction => b.length == 1
  | .scheduleStatus => b.length == 1
  | .setOutput => b.length == 2
  | .setSafeLevels => b.length == 2
  | .outputStatus => b.length == 0
  | .poll => b.length == 3

/-- The five kinds that may be sent as a broadcast (09 §9.4). -/
def broadcastEligible : Kind → Bool
  | .mark | .go | .halt | .startList | .stopList => true
  | _ => false

/-! ### Frames and their check (12 §12.2, 10 R160) -/

/-- One bit of the CRC register: shift left, and add the generator x^16 + x^12 + x^5 + 1 when a 1 goes
out at the top. -/
def crcBit (r : BitVec 16) : BitVec 16 :=
  if r.msb then (r <<< 1) ^^^ 0x1021 else r <<< 1

/-- One character into the CRC register, most significant bit first. -/
def crcByte (r : BitVec 16) (c : Byte) : BitVec 16 :=
  crcBit (crcBit (crcBit (crcBit (crcBit (crcBit (crcBit (crcBit
    (r ^^^ (c.zeroExtend 16 <<< 8)))))))))

/-- The CRC of a run of characters: the register starts at FFFFh and is not inverted (10 R160). -/
def crcOf (cs : List Byte) : BitVec 16 := cs.foldl crcByte 0xFFFF

/-- The characters a frame's CRC is computed over: address, control, kind, length and body. -/
def Frame.checked (f : Frame) : List Byte :=
  [f.address, f.control, f.kind, BitVec.ofNat 8 f.body.length] ++ f.body

/-- All characters of a frame, in the order they are sent. -/
def Frame.chars (f : Frame) : List Byte := f.checked ++ u16 f.crc.toNat

/-- The frame with those fields and the CRC computed over them. -/
def sealFrame (address control kind : Byte) (body : List Byte) : Frame :=
  { address, control, kind, body,
    crc := crcOf ([address, control, kind, BitVec.ofNat 8 body.length] ++ body) }

/-- The request frame a host sends for a request command (log 1). -/
def requestFrame (k : Kind) (r : Req) : Frame := sealFrame r.address r.control (kindCode k) r.body

/-- The fields of a buffer of characters that holds a whole frame. -/
def frameOf (buf : List Byte) : Frame :=
  { address := buf.getD 0 0, control := buf.getD 1 0, kind := buf.getD 2 0,
    body := (buf.drop 4).take (buf.length - 6),
    crc := BitVec.ofNat 16 (wordAt buf (buf.length - 2)) }

/-- The length check of R165: at least 6 characters, and the length field agrees. -/
def frameLengthOk (buf : List Byte) : Bool := 6 ≤ buf.length && byteAt buf 3 == buf.length - 6

/-- The check of R160: the CRC over all characters but the last two equals the value those carry. -/
def frameCheckOk (buf : List Byte) : Bool :=
  crcOf (buf.take (buf.length - 2)) == (frameOf buf).crc

/-- The request sequence number: the low four bits of the control character (09 R144). -/
def Frame.seq (f : Frame) : BitVec 4 := f.control.setWidth 4

/-- The address of a reply: the node address plus 128 (09 R148). -/
def replyAddress (t : Straps) : Byte := BitVec.ofNat 8 (t.address.toNat + 128)

/-- The control character of a reply: the sequence number, every other bit 0 (09 R148). -/
def replyControl (f : Frame) : Byte := f.seq.setWidth 8

/-- The reply to a request carried out: the request's kind plus 128 (09 R148). -/
def replyFrame (t : Straps) (f : Frame) (body : List Byte) : Frame :=
  sealFrame (replyAddress t) (replyControl f) (f.kind + 128) body

/-- The refusal of a request: kind 255, and the refused kind, the reason and the detail (09 R147). -/
def refusalFrame (t : Straps) (f : Frame) (reason : Reason) (detail : Nat) : Frame :=
  sealFrame (replyAddress t) (replyControl f) 255 ([f.kind] ++ u8 reason.code ++ u8 detail)

/-- The cached reply marked as from the cache: the top bit of its control character set and its CRC
computed afresh (09 R150). -/
def markCached (f : Frame) : Frame := sealFrame f.address (f.control ||| 0x80) f.kind f.body

end Sys2Proof.Machine
end

