-- ==== Sys2Proof/Machine/Flags.lean ====
section
/-! DEFINITION. The flags and masks the node computes: the flags of a record (03 R58, R59), the flag
bytes of replies (12 §12.6), and masks of lists and lines (12 R181). -/

namespace Sys2Proof.Machine

/-- The code of a FAST reading: the ten bits of the mode's resolution, multiplied by 4 (03 R56). -/
def fastCode (level : BitVec 12) : Nat := level.toNat / 4 * 4

/-- The code of a sample of what the input presents, at the resolution of the mode (03 R56). -/
def sampleCode (m : Mode) (level : BitVec 12) : Nat :=
  match m with
  | .standard => level.toNat
  | .fast => fastCode level

/-- The maximum code of a mode (03 R55). -/
def maxCode : Mode → Nat
  | .standard => 4095
  | .fast => 4092

/-- OPEN: the check was ON, the charged reading 3,968 or more, the discharged reading 127 or less
(03 R58). -/
def openFlag (c : Context) : Bool :=
  match c.options.check, c.charged, c.discharged with
  | true, some hi, some lo => 3968 ≤ hi && lo ≤ 127
  | _, _, _ => false

/-- The four flags of a record, decided at completion from the context (03 R58, R59). -/
def recordFlags (c : Context) : RecordFlags :=
  { openInput := openFlag c, clipHigh := c.highSeen, clipLow := c.lowSeen,
    fast := c.options.mode == .fast }

/-- The progress flags of LIST_STATUS: bit 0 stop-pending, 1 trigger-pending, 2 in-flight,
3 expiry-present. -/
def progressFlags (l : ListRecord) : Nat :=
  flag l.stopPending + 2 * flag l.triggerPending + 4 * flag l.inFlight + 8 * flag l.expiry.isSome

/-- The arming byte of FIFO_STATUS: bit 0 level, bit 1 full. -/
def armingFlags (r : ResultStore) : Nat := flag r.levelArmed + 2 * flag r.fullArmed

/-- The flags of a POLL reply: bit 0 ack-unmatched, bit 1 more-pending. -/
def pollFlags (unmatched more : Bool) : Nat := flag unmatched + 2 * flag more

/-- The item byte of READ_LATEST: bits 0 to 3 channel, bit 6 fresh, bit 7 present. -/
def latestItemByte (c : Fin 16) (e : Option LatestEntry) : Nat :=
  match e with
  | none => c.val
  | some x => c.val + 64 * flag x.fresh + 128

/-- Whether a list is ARMED, ACTIVE or RESTING. -/
def ListState.running : ListState → Bool
  | .armed | .active | .resting => true
  | .undefined | .ready => false

/-- The mask of the lists that are ARMED, ACTIVE or RESTING (11 R180, 01 R29). -/
def runningMask (e : ScanEngine) : Nat :=
  (allLists.map fun k => flag e.lists[k].state.running * 2 ^ k.val).sum

/-- A reply level byte: bit k set when line k is HIGH. -/
def levelsByte (level : Fin 4 → Level) : Nat :=
  (allFour.map fun k => flag (level k == .high) * 2 ^ k.val).sum

/-- The level a SET_OUTPUT or SET_SAFE_LEVELS byte gives line k in its bits 2k and 2k + 1. -/
def levelOfLine (n : Nat) (k : Fin 4) : Option Level := levelOf (bitsOf n (2 * k.val) 2)

end Sys2Proof.Machine
end

