-- ==== Sys2Proof/Machine/Ops.lean ====
section
/-! DEFINITION. The operations every block shares: reading and changing one entry of a table, raising a
notice (08 R129, R130), writing an output line (06 R109), taking a free number, and the due stamps of
what the node does in time (00 §4.0). Each rule that uses one of these cites it here. -/

namespace Sys2Proof.Machine

/-! ### Entries of the tables -/

/-- List number `k`. -/
def State.list (s : State) (k : Fin 8) : ListRecord := s.se.lists[k]

/-- List number `k` changed by `f`; nothing else. -/
def State.updList (s : State) (k : Fin 8) (f : ListRecord → ListRecord) : State :=
  { s with se := { s.se with lists := s.se.lists.set k (f (s.list k)) } }

/-- Output line `k`. -/
def State.line (s : State) (k : Fin 4) : OutputLine := s.ou.lines[k]

/-- Output line `k` changed by `f`; nothing else. -/
def State.updLine (s : State) (k : Fin 4) (f : OutputLine → OutputLine) : State :=
  { s with ou := { lines := s.ou.lines.set k (f (s.line k)) } }

/-- Watch number `w`. -/
def State.watch (s : State) (w : Fin 12) : Option WatchEntry := s.wu.watches[w]

/-- Watch number `w` set; nothing else. -/
def State.setWatch (s : State) (w : Fin 12) (e : Option WatchEntry) : State :=
  { s with wu := { watches := s.wu.watches.set w e } }

/-- Capture input `k`. -/
def State.input (s : State) (k : Fin 4) : CaptureInput := s.tcu.inputs[k]

/-- Capture input `k` changed by `f`; nothing else. -/
def State.updInput (s : State) (k : Fin 4) (f : CaptureInput → CaptureInput) : State :=
  { s with tcu := { s.tcu with inputs := s.tcu.inputs.set k (f (s.input k)) } }

/-- The present stamp. -/
def State.now (s : State) : Stamp := s.tcu.stamp

/-- The step record a list stands at: step memory number first step plus current step index
(01 R5, R9); `none` for a list without a definition. Steps a running list covers cannot be written
(R3), so this is the record as the list read it when it began the step. -/
def currentStep (s : State) (k : Fin 8) : Option StepRecord :=
  match (s.list k).defn with
  | none => none
  | some d => s.se.steps.toList[d.firstStep + (s.list k).stepIndex]?

/-! ### Notices (08 §8.2) -/

/-- Whether a notice is a NOTICES_LOST. -/
def Notice.isLost (n : Notice) : Bool :=
  match n.body with
  | .noticesLost _ _ => true
  | _ => false

/-- Whether a NOTICES_LOST notice is in the queue. -/
def NoticeQueue.hasLost (q : NoticeQueue) : Bool := q.notices.any Notice.isLost

/-- Room for an ordinary notice: fewer than 31 queued without a NOTICES_LOST, fewer than 32 with one
(08 R129). -/
def NoticeQueue.hasRoom (q : NoticeQueue) : Bool :=
  if q.hasLost then q.notices.length < Config.noticeSize
  else q.notices.length < Config.noticeSize - 1

/-- The notice sequence after `n`: after 65,535 comes 1 (08 R126). -/
def nextNoticeSeq (n : Nat) : Nat := if 65535 ≤ n then 1 else n + 1

/-- A notice placed at the back, undelivered, with the next notice sequence (08 R129). -/
def NoticeQueue.append (q : NoticeQueue) (now : Stamp) (b : NoticeBody) : NoticeQueue :=
  { q with
    notices := q.notices ++ [{ seq := q.nextSeq, stamp := now, body := b, delivered := false }]
    nextSeq := nextNoticeSeq q.nextSeq }

/-- A NOTICES_LOST notice appended for `count` losses, the first at `first`, with its record set up
afresh (08 R130, R131, R136). -/
def NoticeQueue.appendLost (q : NoticeQueue) (now : Stamp) (count : Nat) (first : Stamp) :
    NoticeQueue :=
  { q.append now (.noticesLost count first) with
    lost := some { lost := count, first := first, carried := 0, firstUncarried := some first } }

/-- The body of a NOTICES_LOST notice with one more loss counted; any other notice as it is. -/
def Notice.countLoss (n : Notice) : Notice :=
  match n.body with
  | .noticesLost c f => { n with body := .noticesLost (saturate (c + 1)) f }
  | _ => n

/-- The lost-notice record with one more loss counted (08 R131). -/
def LostRecord.countLoss (r : LostRecord) (now : Stamp) : LostRecord :=
  { r with
    lost := saturate (r.lost + 1)
    firstUncarried := some (r.firstUncarried.getD now) }

/-- A notice that finds no room: the first loss appends a NOTICES_LOST, a further one is counted into
it wherever it stands (08 R130). -/
def NoticeQueue.lose (q : NoticeQueue) (now : Stamp) : NoticeQueue :=
  if q.hasLost then
    { q with
      notices := q.notices.map Notice.countLoss
      lost := q.lost.map fun r => r.countLoss now }
  else q.appendLost now 1 now

/-- A notice raised: appended where there is room, else lost and counted (08 R129, R130). -/
def NoticeQueue.raise (q : NoticeQueue) (now : Stamp) (b : NoticeBody) : NoticeQueue :=
  if q.hasRoom then q.append now b else q.lose now

/-- A block raises a notice at the present stamp (08 R126). -/
def State.raise (s : State) (b : NoticeBody) : State := { s with nq := s.nq.raise s.now b }

/-- A block raises a notice, or does not. -/
def State.raiseIf (s : State) (c : Bool) (b : NoticeBody) : State := if c then s.raise b else s

/-! ### Output lines (06 R109) -/

/-- A write to a line, updating its record even when the level does not change (06 R109). -/
def State.writeLine (s : State) (k : Fin 4) (level : Level) (src : LineSource) : State :=
  s.updLine k fun l => { l with level := level, source := src, stamp := s.now }

/-! ### Numbers given out (02 R34, 07 R116) -/

/-- The number after `n` in the cycle 1 to `top`. -/
def nextNumber (top n : Nat) : Nat := if top ≤ n then 1 else n + 1

/-- The first number from `n` on, in the cycle 1 to `top`, that is not used, looking at `fuel` numbers
at most. -/
def firstFree (used : Nat → Bool) (top : Nat) : (fuel n : Nat) → Nat
  | 0, n => n
  | fuel + 1, n => if used n then firstFree used top fuel (nextNumber top n) else n

/-! ### Abandoning a conversion (02 R43, 03 R62) -/

/-- The conversion in flight is abandoned: the converter becomes IDLE, its context is discarded, and
the grant record becomes NONE; no record comes of it (02 R43). -/
def State.abandon (s : State) : State :=
  { s with ca := { s.ca with grant := none }, cv := { s.cv with state := .idle } }

/-- Whether the grant record names list `k` as owner. -/
def Arbiter.ownedByList (a : Arbiter) (k : Fin 8) : Bool :=
  match a.grant with
  | some { owner := .list j _, .. } => j == k
  | _ => false

/-- SE's request to abandon list `k`'s conversion: nothing, where the grant record is NONE or names
another owner (02 R44). -/
def State.abandonList (s : State) (k : Fin 8) : State :=
  if s.ca.ownedByList k then s.abandon else s

/-! ### What is due in time (00 §4.0, "Stamps and their comparison") -/

/-- The context the converter holds (03 R50). -/
def ConverterState.context : ConverterState → Option Context
  | .checking c | .settling c | .sampling c => some c
  | .calibrating | .idle => none

/-- The stamp at which the converter next acts: the end of calibration, of a phase or of a sample. -/
def Converter.due (c : Converter) : Option Stamp :=
  match c.state with
  | .calibrating => some Config.calibrationEnd
  | .idle => none
  | .checking x | .settling x | .sampling x => some x.phaseEnd

/-- The rest stamp: pass start stamp plus period (01 R18). -/
def restStamp (l : ListRecord) : Stamp :=
  l.passStart + BitVec.ofNat 32 ((l.defn.map ListDef.passPeriod).getD 0)

/-- The stamp a list waits for: the expiry stamp when ACTIVE, the rest stamp when RESTING
(01 R9, R18). -/
def ListRecord.due (l : ListRecord) : Option Stamp :=
  match l.state with
  | .active => l.expiry
  | .resting => some (restStamp l)
  | _ => none

/-- The end of a debounce context: its initial stamp plus the debounce (06 R101). -/
def CaptureInput.due (c : CaptureInput) : Option Stamp :=
  c.context.map fun x => x.1 + BitVec.ofNat 32 c.debounce

/-- The due stamp of the front entry of the schedule (07 R119). -/
def ScheduleUnit.due (u : ScheduleUnit) : Option Stamp := u.table.head?.map ScheduleEntry.due

/-- Every stamp at which something is due. -/
def State.dueStamps (s : State) : List Stamp :=
  ([s.cv.due, s.su.due, s.nc.timer] ++ allLists.map (fun k => (s.list k).due)
    ++ allFour.map (fun k => (s.input k).due)).filterMap id

/-- Whether the stamp can reach `d` with nothing else due before it (log 2). -/
def State.reaches (s : State) (d : Stamp) : Bool :=
  s.dueStamps.all fun x => distance s.now d ≤ distance s.now x

/-- The stamp advanced to `d`. -/
def State.advance (s : State) (d : Stamp) : State := { s with tcu := { s.tcu with stamp := d } }

/-- What happens when the stamp reaches a due stamp: the stamp advances to it and `f` follows, provided
that nothing else is due before; nothing happens where no stamp is due or the node is held in reset
(log 2). -/
def State.whenDue (s : State) (due : Option Stamp) (f : State → State) : State :=
  match due with
  | some d => if !s.resetHeld && s.reaches d then f (s.advance d) else s
  | none => s

/-! ### What an owner answers to a request (09 R143) -/

/-- An owner refuses a request, with a reason and the detail byte, changing nothing; or carries it out,
with the reply body and the state after (09 R143 stage 3, R147). -/
inductive Verdict
  | refuse (reason : Reason) (detail : Nat)
  | accept (reply : List Byte) (after : State)
  deriving DecidableEq, Repr

end Sys2Proof.Machine
end

