-- ==== Sys2Proof/Machine/Grants.lean ====
section
/-! DEFINITION. The Conversion Arbiter's claims and grants (02 §2.2, §2.4): which lists claim, who is
granted next, and what a grant does. -/

namespace Sys2Proof.Machine

/-- List `k` claims: ACTIVE, at a CONVERT step, with its in-flight flag clear (02 R32). -/
def listClaims (s : State) (k : Fin 8) : Bool :=
  (s.list k).state == .active && !(s.list k).inFlight &&
    (match currentStep s k with
     | some (.convert _ _) => true
     | _ => false)

/-- The priority level of list `k` (01 R5). -/
def listLevel (s : State) (k : Fin 8) : Option (Fin 4) := (s.list k).defn.map ListDef.level

/-- The list numbers p + 1, p + 2 and so on in cyclic order 0 to 7, ending with p (02 R37). -/
def turnOrder (p : Fin 8) : List (Fin 8) :=
  [p + 1, p + 2, p + 3, p + 4, p + 5, p + 6, p + 7, p]

/-- The first list in turn that claims at a level (02 R37). -/
def turnAt (s : State) (level : Fin 4) : Option (Fin 8) :=
  (turnOrder s.ca.pointers[level]).find? fun k => listClaims s k && listLevel s k == some level

/-- The list to be granted when no ticket waits: the highest level at which one claims, and the first
in turn there (02 R37). -/
def chosenList (s : State) : Option (Fin 8) := [3, 2, 1, 0].findSome? (turnAt s)

/-- The effective options: each field that is DEFAULT or absent replaced by the channel setting of this
moment (02 R38). -/
def effective (settings : Vector Options 16) (c : Fin 16) (g : OptGroup) : Options :=
  { settle := g.settle.getD settings[c].settle, averaging := g.averaging.getD settings[c].averaging,
    mode := g.mode.getD settings[c].mode, check := g.check.getD settings[c].check }

/-- The context a grant sets up, and the first phase: CHECKING for 10 µs when the input check is ON,
else SETTLING for the settle time (03 R52). -/
def startConversion (now : Stamp) (c : Fin 16) (x : Options) : ConverterState :=
  let ctx : Context :=
    { channel := c, options := x, phaseEnd := now + BitVec.ofNat 32 (if x.check then 10 else x.settle),
      charged := none, discharged := none, firstSample := none, samples := 0, sum := 0,
      highSeen := false, lowSeen := false }
  if x.check then .checking ctx else .settling ctx

/-- The converter granted to an owner for a channel: the options fixed, the grant record set, the
converter started (02 R38). -/
def State.giveConverter (s : State) (owner : Owner) (c : Fin 16) (g : OptGroup) : State :=
  let x := effective s.cv.settings c g
  { s with
    ca := { s.ca with grant := some { owner := owner, channel := c, options := x, stamp := s.now } }
    cv := { s.cv with state := startConversion s.now c x } }

/-- A ticket granted: it leaves the front of the queue, which becomes `rest` (02 R38). -/
def grantTicket (s : State) (t : Ticket) (rest : List Ticket) : State :=
  { s with ca := { s.ca with queue := rest } }.giveConverter
    (.ticket t.number t.toFifo t.notify) t.channel t.options

/-- A list granted: its in-flight flag is set and the pointer of its level becomes its number
(02 R37, R38). -/
def grantList (s : State) (k : Fin 8) : State :=
  match currentStep s k, listLevel s k with
  | some (.convert c g), some level =>
    (({ s with ca := { s.ca with pointers := s.ca.pointers.set level k } }.updList k
      fun l => { l with inFlight := true }).giveConverter (.list k (s.list k).stepIndex) c g)
  | _, _ => s

/-- A grant, where the converter is IDLE, the grant record NONE and a claim stands: the oldest waiting
ticket, else the chosen list (02 R36, R37). -/
def makeGrant (s : State) : State :=
  if s.cv.state == .idle && s.ca.grant.isNone then
    match s.ca.queue with
    | t :: rest => grantTicket s t rest
    | [] => match chosenList s with
      | some k => grantList s k
      | none => s
  else s

/-- The grant that follows a claim or an abandonment, unless the event being handled makes its own
grant at its close (`closing`): a completion, a node leaving RUN, a retrigger (02 R36, log 9). -/
def grantUnless (closing : Bool) (s : State) : State := if closing then s else makeGrant s

end Sys2Proof.Machine
end

