-- ==== Sys2Proof/Machine/ScanLists.lean ====
section
/-! DEFINITION. The Scan Engine: the life of a list (01 §1.3), triggers (01 §1.4), and the end of every
run when the node leaves RUN (01 §1.6). The flag `closing` says that the event being handled makes its
own grant when it closes, so that a claim made inside it waits for that grant (02 R36). -/

namespace Sys2Proof.Machine

/-! ### Beginning a step and a run -/

/-- An ACTIVE list begins its current step: a WAIT or AWAIT step sets the expiry stamp, a CONVERT step
claims the converter (01 R9). -/
def beginStep (closing : Bool) (k : Fin 8) (s : State) : State :=
  match currentStep s k with
  | some (.convert _ _) =>
    grantUnless closing (s.updList k fun l => { l with expiry := none, edgeWaiting := false })
  | some (.wait d) =>
    s.updList k fun l => { l with expiry := some (s.now + BitVec.ofNat 32 d), edgeWaiting := false }
  | some (.await _ t) =>
    s.updList k fun l =>
      { l with expiry := t.map fun ms => s.now + BitVec.ofNat 32 (1000 * ms), edgeWaiting := false }
  | none => s

/-- A run starts (01 R11): ACTIVE, progress and counters cleared, both start stamps the present stamp,
and step 0 begins. The end record is kept. -/
def startRun (closing : Bool) (k : Fin 8) (s : State) : State :=
  beginStep closing k (s.updList k fun l =>
    { l with state := .active, stepIndex := 0, passes := 0, missed := 0, overruns := 0,
             preemptions := 0, runStart := s.now, passStart := s.now, stopPending := false,
             triggerPending := false, inFlight := false, expiry := none })

/-! ### The end of a run -/

/-- The LIST_END notice of list `k` as it stands (01 R20, 08 R127). -/
def listEndNotice (s : State) (k : Fin 8) (reason : EndReason) : NoticeBody :=
  .listEnd k reason (s.list k).passes (s.list k).missed (s.list k).overruns (s.list k).preemptions

/-- Whether list `k`'s definition has the flag `f` set. -/
def State.listFlag (s : State) (k : Fin 8) (f : ListDef → Bool) : Bool :=
  match (s.list k).defn with
  | some d => f d
  | none => false

/-- Whether a run that ends with this reason leaves the list ARMED (01 R20). -/
def rearms (s : State) (k : Fin 8) (reason : EndReason) : Bool :=
  reason == .completed && s.listFlag k fun d => d.rearm && d.source != .host

/-- The first stage of a run end: an in-flight flag is cleared and CA is asked to abandon the list's
conversion (01 R20 step 1, 02 R44). -/
def leaveConverter (k : Fin 8) (s : State) : State :=
  if (s.list k).inFlight then
    (s.updList k fun l => { l with inFlight := false }).abandonList k
  else s

/-- A run ends, steps 1 to 5 of R20: the conversion abandoned, READY or ARMED, the progress cleared, the
end record written, LIST_END raised. -/
def closeRun (k : Fin 8) (reason : EndReason) (s : State) : State :=
  let s1 := leaveConverter k s
  let s2 := s1.updList k fun l =>
    { l with state := if rearms s k reason then .armed else .ready, stepIndex := 0, expiry := none,
             stopPending := false, edgeWaiting := false,
             triggerPending := if reason == .completed then l.triggerPending else false,
             endRecord := some (reason, s.now) }
  s2.raiseIf (s2.listFlag k ListDef.notifyEnd || reason == .fifoFull || reason == .awaitTimeout)
    (listEndNotice s2 k reason)

/-! ### Triggers -/

/-- What R23 does with a trigger that a running list acts on. -/
inductive Retrigger
  | missed
  | restarted
  | queued
  deriving DecidableEq, Repr

/-- The retrigger rule: missed when a stop is pending, else by policy; a second queued trigger is missed
(01 R23). -/
def retriggerOf (l : ListRecord) (p : Policy) : Retrigger :=
  if l.stopPending then .missed
  else match p with
    | .ignore => .missed
    | .restart => .restarted
    | .queueOne => if l.triggerPending then .missed else .queued

/-- A trigger a running list acts on, taken by the retrigger rule (01 R23). A RESTART ends the run and
starts another, and the grant that follows an abandonment closes the retrigger (02 R36). -/
def retrigger (closing : Bool) (k : Fin 8) (p : Policy) (s : State) : State :=
  match retriggerOf (s.list k) p with
  | .missed => s.updList k fun l => { l with missed := saturate (l.missed + 1) }
  | .queued => s.updList k fun l => { l with triggerPending := true }
  | .restarted => grantUnless closing (startRun true k (closeRun k .retriggered s))

/-- A trigger reaches list `k`, which acts on it only if its definition names that source, and then by
its state (01 R22). -/
def takeTrigger (closing : Bool) (src : TriggerSource) (k : Fin 8) (s : State) : State :=
  match (s.list k).defn with
  | none => s
  | some d =>
    if d.source == src then
      match (s.list k).state with
      | .armed => startRun closing k s
      | .active | .resting => retrigger closing k d.policy s
      | .undefined | .ready => s
    else s

/-- A trigger delivered to every list that names its source, one at a time in increasing order of list
number (01 R22). -/
def deliver (closing : Bool) (src : TriggerSource) (s : State) : State :=
  allLists.foldl (fun s k => takeTrigger closing src k s) s

/-- What follows a COMPLETED run: the LIST_DONE trigger, then a queued start (01 R21). -/
def chain (closing : Bool) (k : Fin 8) (s : State) : State :=
  let s1 := deliver closing (.listDone k) s
  if (s1.list k).triggerPending then
    startRun closing k (s1.updList k fun l => { l with triggerPending := false })
  else s1

/-- A run ends (01 R20, R21). -/
def endRun (closing : Bool) (k : Fin 8) (reason : EndReason) (s : State) : State :=
  let s1 := closeRun k reason s
  if reason == .completed then chain closing k s1 else s1

/-! ### The end of a pass and of a step -/

/-- The count of passes after one more: a continuous list counts on from 65,535 to 0 (01 R17). -/
def morePasses (d : ListDef) (n : Nat) : Nat := if d.passCount = 0 then (n + 1) % 65536 else n + 1

/-- Passes completed increased by one, and LIST_PASS raised if notify-pass is set (01 R17 steps 1 and 2,
R12). -/
def countPass (d : ListDef) (k : Fin 8) (s : State) : State :=
  let s1 := s.updList k fun l => { l with passes := morePasses d l.passes }
  s1.raiseIf d.notifyPass (.listPass k (s1.list k).passes)

/-- The next pass begins at once, its start the present stamp (01 R17, R18). -/
def nextPass (closing : Bool) (k : Fin 8) (s : State) : State :=
  beginStep closing k (s.updList k fun l => { l with passStart := s.now })

/-- At the end of a pass with a period: rest, or overrun (01 R18). -/
def restOrOverrun (closing : Bool) (d : ListDef) (k : Fin 8) (s : State) : State :=
  let dist := distance (s.list k).passStart s.now
  if dist < d.passPeriod then s.updList k fun l => { l with state := .resting }
  else
    let s1 := s.updList k fun l => { l with overruns := saturate (l.overruns + 1) }
    nextPass closing k (s1.raiseIf d.notifyPass
      (.listOverrun k (s1.list k).passes (dist - d.passPeriod)))

/-- A pass has ended, the current step index already back at 0 (01 R10, R17). -/
def endPass (closing : Bool) (d : ListDef) (k : Fin 8) (s : State) : State :=
  let s1 := countPass d k s
  if (s1.list k).stopPending then endRun closing k .stopped s1
  else if d.passCount ≠ 0 ∧ (s1.list k).passes = d.passCount then endRun closing k .completed s1
  else if d.passPeriod = 0 then nextPass closing k s1
  else restOrOverrun closing d k s1

/-- An ACTIVE list has finished its current step (01 R10). -/
def finishStep (closing : Bool) (k : Fin 8) (s : State) : State :=
  match (s.list k).defn with
  | none => s
  | some d =>
    let next := (s.list k).stepIndex + 1
    if next < d.stepCount then
      beginStep closing k (s.updList k fun l =>
        { l with expiry := none, edgeWaiting := false, stepIndex := next })
    else
      endPass closing d k (s.updList k fun l =>
        { l with expiry := none, edgeWaiting := false, stepIndex := 0 })

/-! ### Records, preemption and edges -/

/-- A dropped record ends the run of a stop-on-full list: the step counts as finished, and a pass with
it if it was the last (01 R12). -/
def endOnDrop (closing : Bool) (d : ListDef) (k : Fin 8) (s : State) : State :=
  let next := (s.list k).stepIndex + 1
  let s1 := if next < d.stepCount then s.updList k fun l => { l with stepIndex := next }
    else countPass d k (s.updList k fun l => { l with stepIndex := next })
  endRun closing k .fifoFull s1

/-- A list's conversion record reaches it, the last stage of the completion; it is disregarded when the
in-flight flag is clear (01 R12). The grant is left to the close of the completion. -/
def recordToList (k : Fin 8) (dropped : Bool) (s : State) : State :=
  if (s.list k).inFlight then
    let s1 := s.updList k fun l => { l with inFlight := false }
    match (s.list k).defn with
    | none => s1
    | some d => if dropped && d.stopOnFull then endOnDrop true d k s1 else finishStep true k s1
  else s

/-- A list learns that its conversion was preempted, and claims again on the same step (01 R13). -/
def listPreempted (k : Fin 8) (s : State) : State :=
  s.updList k fun l => { l with inFlight := false, preemptions := saturate (l.preemptions + 1) }

/-- Whether a list is ACTIVE at an AWAIT step naming an input (01 R15). -/
def awaitsInput (s : State) (input : Fin 4) (k : Fin 8) : Bool :=
  (s.list k).state == .active &&
    (match currentStep s k with
     | some (.await i _) => i == input
     | _ => false)

/-- The lists whose AWAIT step on an input stands as an edge is accepted are marked; a mark goes as soon
as the list begins another step or run, so the edge finishes no step begun after it (01 R15, R24,
log 10). -/
def markWaiting (input : Fin 4) (s : State) : State :=
  allLists.foldl (fun s k =>
    if awaitsInput s input k then s.updList k fun l => { l with edgeWaiting := true } else s) s

/-- The marked lists finish their AWAIT step, one at a time in increasing order of list number
(01 R15). -/
def finishWaiting (s : State) : State :=
  allLists.foldl (fun s k => if (s.list k).edgeWaiting then finishStep false k s else s) s

/-! ### The node leaving RUN -/

/-- An ARMED list becomes READY without a run: the end record is written, and LIST_END raised if
notify-end is set (01 R26, R29). -/
def disarm (k : Fin 8) (reason : EndReason) (s : State) : State :=
  let s1 := s.updList k fun l => { l with state := .ready, endRecord := some (reason, s.now) }
  s1.raiseIf (s1.listFlag k ListDef.notifyEnd) (listEndNotice s1 k reason)

/-- List `k` ended because the node leaves RUN (01 R29). -/
def endForNode (reason : EndReason) (k : Fin 8) (s : State) : State :=
  match (s.list k).state with
  | .active | .resting => endRun true k reason s
  | .armed => disarm k reason s
  | .undefined | .ready => s

/-- Every list that is ARMED, ACTIVE or RESTING ended, in order of list number, and the grant that
follows the abandonments once the whole has run its course (01 R29, 02 R36). -/
def endAllLists (reason : EndReason) (s : State) : State :=
  makeGrant (allLists.foldl (fun s k => endForNode reason k s) s)

end Sys2Proof.Machine
end

