-- ==== Sys2Proof/Machine/Capture.lean ====
section
/-! DEFINITION. The Timebase and Capture Unit (06 §6.1 to §6.3): the stamp, capture edges and their log,
and the requests READ_STAMP, SET_CAPTURE, READ_CAPTURES and MARK. -/

namespace Sys2Proof.Machine

/-! ### The capture log (06 R103, R104) -/

/-- Whether the capture log has room (06 R103). -/
def Timebase.logRoom (t : Timebase) : Bool := t.log.length < Config.logSize

/-- An entry appended to the log, or dropped and counted, with CAPTURE_OVERFLOW when that notice is
armed (06 R103, R104). -/
def logEntry (e : LogEntry) (s : State) : State :=
  if s.tcu.logRoom then { s with tcu := { s.tcu with log := s.tcu.log ++ [e] } }
  else
    let s1 := { s with tcu := { s.tcu with dropped := saturate (s.tcu.dropped + 1),
                                           overflowArmed := false } }
    s1.raiseIf s.tcu.overflowArmed .captureOverflow

/-! ### Edges (06 §6.2) -/

/-- An edge is accepted on input `k`: logged, delivered as a trigger, ending the AWAIT steps that stood
as it was accepted, and raising CAPTURE_EVENT, in that order (06 R102, 01 R24). -/
def acceptEdge (k : Fin 4) (d : Direction) (stamp : Stamp) (s : State) : State :=
  let logged := logEntry (.edge k d stamp) s
  let triggered := deliver false (.capture k) (markWaiting k logged)
  let finished := finishWaiting triggered
  finished.raiseIf (s.input k).notify (.captureEvent k d)

/-- The direction of a change to a level (06 R97). -/
def directionTo : Level → Direction
  | .high => .rising
  | .low => .falling

/-- The level a change in a direction arrives at. -/
def Direction.target : Direction → Level
  | .rising => .high
  | .falling => .low

/-- Whether a change in a direction matches an edge select (06 R100). -/
def EdgeSelect.admits : EdgeSelect → Direction → Bool
  | .off, _ => false
  | .rising, d => d == .rising
  | .falling, d => d == .falling
  | .both, _ => true

/-- The pin of input `k` at a level; nothing else. -/
def State.setPin (s : State) (k : Fin 4) (v : Level) : State :=
  { s with tcu := { s.tcu with pins := s.tcu.pins.set k v } }

/-- What TCU does with a change of input `k`'s pin to a level (06 R100, R101): the return that ends a
debounce context is no edge; else a change by the edge select and the debounce. -/
def pinChanged (k : Fin 4) (v : Level) (s : State) : State :=
  let i := s.input k
  if i.context.isSome then
    if v = i.settled then s.updInput k fun i => { i with context := none } else s
  else if v = i.settled then s
  else if !i.edge.admits (directionTo v) then s.updInput k fun i => { i with settled := v }
  else if i.debounce = 0 then
    acceptEdge k (directionTo v) s.now (s.updInput k fun i => { i with settled := v })
  else s.updInput k fun i => { i with context := some (s.now, directionTo v) }

/-- CAPTURE_PIN_CHANGE: the pin takes the level. Nothing else where it held that level already, or where
the node is held in reset, which then only has its pins change (06 R98, R100). -/
def capturePinChange (k : Fin 4) (v : Level) (s : State) : State :=
  if s.tcu.pins[k] = v then s
  else if s.resetHeld then s.setPin k v
  else pinChanged k v (s.setPin k v)

/-- A debounce context ends with its edge accepted, with the context's own stamp and direction
(06 R101). -/
def endDebounce (k : Fin 4) (stamp : Stamp) (d : Direction) (s : State) : State :=
  acceptEdge k d stamp (s.updInput k fun i => { i with context := none, settled := d.target })

/-- DEBOUNCE_END: the stamp reaches the end of input `k`'s debounce context with the pin still at the
new level (06 R101). -/
def debounceEnd (k : Fin 4) (s : State) : State :=
  match (s.input k).context with
  | some (stamp, d) =>
    if s.tcu.pins[k] = d.target then s.whenDue (s.input k).due (endDebounce k stamp d) else s
  | none => s

/-- The meaning of CAPTURE_PIN_CHANGE (06 R100). -/
def execCapturePinChange (k : Fin 4) (v : Level) (s : State) : Host.Outcome State Fault Refusal :=
  .next (capturePinChange k v s)

/-- The meaning of DEBOUNCE_END (06 R101). -/
def execDebounceEnd (k : Fin 4) (s : State) : Host.Outcome State Fault Refusal :=
  .next (debounceEnd k s)

/-! ### The requests of TCU -/

/-- READ_STAMP: the stamp at which the frame was delivered, the present one, since a request is taken
within its delivery (06 R96, 09 R143). -/
def ownReadStamp (s : State) : Verdict := .accept (u32 s.now.toNat) s

/-- MARK: an entry stamped at the frame's gap; outcome 1 LOGGED, 2 DROPPED (06 R105). -/
def ownMark (s : State) : Verdict :=
  .accept (u32 s.now.toNat ++ u8 (if s.tcu.logRoom then 1 else 2)) (logEntry (.mark s.now) s)

/-- What SET_CAPTURE gives: each setting a value, or `none` for absent. -/
structure CaptureSettings where
  edge : Option EdgeSelect
  debounce : Option Nat
  notify : Option Bool
  deriving DecidableEq, Repr

/-- Reads and checks a SET_CAPTURE body after its mask (06 R99, 12 §12.1). -/
def parseCapture (b : List Byte) : Except Nat CaptureSettings :=
  if 15 < byteAt b 0 then .error 1
  else match edgeSelectOf (byteAt b 1) with
    | none => .error 2
    | some edge =>
      if 255 < wordAt b 2 ∧ wordAt b 2 ≠ 0xFFFF then .error 3
      else match captureNotifyOf (byteAt b 4) with
        | none => .error 5
        | some notify =>
          .ok { edge, debounce := if wordAt b 2 = 0xFFFF then none else some (wordAt b 2), notify }

/-- An input with the given settings written, its context discarded and its settled level its pin's
(06 R99). -/
def CaptureInput.rewrite (i : CaptureInput) (c : CaptureSettings) (pin : Level) : CaptureInput :=
  { edge := c.edge.getD i.edge, debounce := c.debounce.getD i.debounce,
    notify := c.notify.getD i.notify, settled := pin, context := none }

/-- SET_CAPTURE: the masked inputs rewritten, and the settings of all four returned (06 R99). -/
def ownSetCapture (b : List Byte) (s : State) : Verdict :=
  match parseCapture b with
  | .error d => .refuse .field d
  | .ok c =>
    let s1 := allFour.foldl (fun s k =>
      if bitOf (byteAt b 0) k.val then s.updInput k fun i => i.rewrite c s.tcu.pins[k] else s) s
    .accept (allFour.flatMap fun k =>
      u8 (s1.input k).edge.code ++ u8 (s1.input k).debounce
        ++ u8 (captureNotifyCode (s1.input k).notify)) s1

/-- READ_CAPTURES: the oldest entries leave from the front, the dropped count is carried and cleared,
and an empty log arms the overflow notice (06 R106, R104). -/
def ownReadCaptures (b : List Byte) (s : State) : Verdict :=
  let most := byteAt b 0
  if most == 0 || Config.logSize < most then .refuse .field 1
  else
    let rest := s.tcu.log.drop most
    .accept (u8 rest.length ++ u16 s.tcu.dropped ++ (s.tcu.log.take most).flatMap logEntryBytes)
      { s with tcu := { s.tcu with log := rest, dropped := 0,
                                   overflowArmed := s.tcu.overflowArmed || rest.isEmpty } }

end Sys2Proof.Machine
end

