-- ==== Sys2Proof/Machine/Outputs.lean ====
section
/-! DEFINITION. The Output Unit's requests SET_OUTPUT, SET_SAFE_LEVELS and OUTPUT_STATUS, and the safe
write (06 §6.4). The write itself is State.writeLine. -/

namespace Sys2Proof.Machine

/-- The checks of a line mask and its levels: a bit for a line above 3, then a level of a masked line
that is neither LOW nor HIGH (06 R110, R111). -/
def lineFieldError (b : List Byte) : Option Nat :=
  if 15 < byteAt b 0 then some 1
  else if allFour.any fun k => bitOf (byteAt b 0) k.val && (levelOfLine (byteAt b 1) k).isNone then
    some 2
  else none

/-- The level that a request gives line `k`: none when the line is not in the mask. -/
def maskedLevel (b : List Byte) (k : Fin 4) : Option Level :=
  if bitOf (byteAt b 0) k.val then levelOfLine (byteAt b 1) k else none

/-- The levels of the four lines as a reply gives them. -/
def levelsNow (s : State) : List Byte := u8 (levelsByte fun k => (s.line k).level)

/-- SET_OUTPUT: each masked line written with source HOST, in order, except in SAFE (06 R110). -/
def ownSetOutput (b : List Byte) (s : State) : Verdict :=
  match lineFieldError b with
  | some d => .refuse .field d
  | none =>
    if s.nc.state = .safe then .refuse .state 0
    else
      let s1 := allFour.foldl (fun s k =>
        match maskedLevel b k with
        | some v => s.writeLine k v .host
        | none => s) s
      .accept (levelsNow s1) s1

/-- SET_SAFE_LEVELS: the safe level of each masked line; in SAFE the line is written too, with source
SAFE (06 R111). -/
def ownSetSafeLevels (b : List Byte) (s : State) : Verdict :=
  match lineFieldError b with
  | some d => .refuse .field d
  | none =>
    let s1 := allFour.foldl (fun s k =>
      match maskedLevel b k with
      | some v =>
        let s2 := s.updLine k fun l => { l with safe := v }
        if s.nc.state = .safe then s2.writeLine k v .safe else s2
      | none => s) s
    .accept (u8 (levelsByte fun k => (s1.line k).safe) ++ levelsNow s1) s1

/-- One line record of an OUTPUT_STATUS reply (12 §12.6). -/
def lineBytes (l : OutputLine) : List Byte :=
  u8 l.level.code ++ u8 l.safe.code ++ lineSourceBytes l.source ++ u32 l.stamp.toNat

/-- OUTPUT_STATUS: the four line records (06 R113). -/
def ownOutputStatus (s : State) : Verdict := .accept (allFour.flatMap fun k => lineBytes (s.line k)) s

/-- The safe write: every line at its safe level with source SAFE, in order of line number
(06 R112). -/
def safeWrite (s : State) : State :=
  allFour.foldl (fun s k => s.writeLine k (s.line k).safe .safe) s

end Sys2Proof.Machine
end

