-- ==== Sys2Proof/Machine/Control.lean ====
section
/-! DEFINITION. The Node Controller (11): leaving RUN, the host-silence timer, and the requests GO, HALT,
RESTART, SET_SILENCE and STATUS. -/

namespace Sys2Proof.Machine

/-! ### The host-silence timer (11 §11.4) -/

/-- The timer started or restarted, provided that the node is in RUN and the silence time is not 0
(11 R175). -/
def restartTimer (s : State) : State :=
  if s.nc.state = .run ∧ s.nc.silence ≠ 0 then
    { s with nc := { s.nc with timer := some (s.now + BitVec.ofNat 32 (1000 * s.nc.silence)) } }
  else s

/-- The time remaining in whole ms rounded up, 0 when the timer is stopped (11 R180). -/
def remainingMs (s : State) : Nat :=
  match s.nc.timer with
  | none => 0
  | some e => (distance s.now e + 999) / 1000

/-! ### Leaving RUN (11 §11.3) -/

/-- Stages 1 to 3 of a departure from RUN: the node state and the timer, the lists, the schedule
(11 R174, 07 R125). -/
def departRun (target : NodeState) (reason : EndReason) (s : State) : State :=
  let s1 := { s with nc := { s.nc with state := target, timer := none } }
  let s2 := endAllLists reason s1
  { s2 with su := { s2.su with table := [] } }

/-- The node leaves RUN for SAFE: the departure, the safe write, and SAFE_ENTERED with the mask of the
lists ended and the number of actions dropped (11 R174). -/
def enterSafe (s : State) : State :=
  (safeWrite (departRun .safe .nodeSafe s)).raise
    (.safeEntered (runningMask s.se) s.su.table.length)

/-- SILENCE_EXPIRY: the stamp reaches the expiry stamp of the running timer (11 R176). -/
def silenceExpiry (s : State) : State := s.whenDue s.nc.timer enterSafe

/-- The meaning of SILENCE_EXPIRY (11 R176). -/
def execSilenceExpiry (s : State) : Host.Outcome State Fault Refusal := .next (silenceExpiry s)

/-! ### The requests of NC -/

/-- GO: outcome 1 ENTERED_RUN, 2 ALREADY_RUNNING, and the node state before (11 R172). -/
def ownGo (s : State) : Verdict :=
  if s.nc.state = .run then .accept (u8 2 ++ u8 s.nc.state.code) s
  else .accept (u8 1 ++ u8 s.nc.state.code)
    (restartTimer { s with nc := { s.nc with state := .run } })

/-- HALT: outcome 1 HALTED, 2 NOT_RUNNING; the node state before; the mask of the lists ended; the
number of actions dropped (11 R173). -/
def ownHalt (s : State) : Verdict :=
  match s.nc.state with
  | .run =>
    .accept (u8 1 ++ u8 s.nc.state.code ++ u8 (runningMask s.se) ++ u8 s.su.table.length)
      (departRun .standby .nodeHalt s)
  | .safe =>
    .accept (u8 1 ++ u8 s.nc.state.code ++ u8 0 ++ u8 0)
      { s with nc := { s.nc with state := .standby } }
  | .standby => .accept (u8 2 ++ u8 s.nc.state.code ++ u8 0 ++ u8 0) s

/-- RESTART: a SOFT reset becomes pending, and nothing else changes; it takes effect when the sending of
the reply ends (11 R178). -/
def ownRestart (s : State) : Verdict :=
  .accept [] { s with nc := { s.nc with restartPending := true } }

/-- SET_SILENCE: a time from 1 to 9 ms or above 60,000 ms is refused; in RUN the timer is restarted with
the new time, or stopped by a time of 0 (11 R177). -/
def ownSetSilence (b : List Byte) (s : State) : Verdict :=
  let time := wordAt b 0
  if (1 ≤ time && time ≤ 9) || 60000 < time then .refuse .field 1
  else
    let s1 := { s with nc := { s.nc with silence := time } }
    let s2 := if time = 0 then { s1 with nc := { s1.nc with timer := none } } else restartTimer s1
    .accept (u16 time ++ u16 (remainingMs s2)) s2

/-- The six line counters as sent. -/
def countersBytes (c : LineCounters) : List Byte :=
  u16 c.good ++ u16 c.check ++ u16 c.framing ++ u16 c.malformed ++ u16 c.overrun ++ u16 c.ignored

/-- STATUS (11 R180, 12 §12.6). -/
def ownStatus (s : State) : Verdict :=
  .accept (u8 s.nc.state.code ++ u8 s.nc.cause.code ++ u16 s.nc.silence ++ u16 (remainingMs s)
    ++ u8 s.cv.state.code ++ u8 s.ca.queue.length ++ u8 (runningMask s.se)
    ++ u16 s.rs.fifo.length ++ u8 s.nq.notices.length ++ u8 s.tcu.log.length
    ++ u8 s.su.table.length ++ countersBytes s.li.counters) s

end Sys2Proof.Machine
end

