-- ==== Sys2Proof/Machine/Results.lean ====
section
/-! DEFINITION. The Result Store (04): what becomes of a completed record, and the requests READ_LATEST,
READ_FIFO, FIFO_STATUS, CLEAR_FIFO and SET_FIFO_LEVEL. -/

namespace Sys2Proof.Machine

/-! ### The handling of a record (04 §4.2 to §4.4) -/

/-- What RS answers of a record (04 R66). -/
inductive Disposition
  | entered
  | dropped
  | notOffered
  deriving DecidableEq, Repr

/-- The record with the next result sequence (04 R65). -/
def ResultStore.number (r : ResultStore) (x : Record) : Record := { x with seq := r.nextSeq }

/-- The next result sequence moved on, from 65,535 to 0, and the record placed in the latest table,
fresh (04 R65, R67). -/
def ResultStore.place (r : ResultStore) (x : Record) : ResultStore :=
  { r with nextSeq := r.nextSeq + 1,
           latest := r.latest.set x.channel (some { record := x, fresh := true }) }

/-- A record offered to the FIFO: entered at the back, with FIFO_LEVEL when that makes the fill equal to
an armed level (04 R70); or dropped and counted, with FIFO_FULL when that notice is armed (04 R71). -/
def offer (x : Record) (s : State) : State × Disposition :=
  if s.rs.fifo.length < Config.fifoSize then
    let fill := s.rs.fifo.length + 1
    let hit := s.rs.level ≠ 0 ∧ fill = s.rs.level ∧ s.rs.levelArmed = true
    let s1 := { s with rs := { s.rs with fifo := s.rs.fifo ++ [x],
                                         levelArmed := if hit then false else s.rs.levelArmed } }
    (s1.raiseIf (decide hit) (.fifoLevel fill), .entered)
  else
    let s1 := { s with rs := { s.rs with dropped := saturate (s.rs.dropped + 1), fullArmed := false } }
    (s1.raiseIf s.rs.fullArmed .fifoFull, .dropped)

/-- Stages 1 and 2 of R66: the latest table, and the FIFO where the source asks for it. -/
def storeRecord (x : Record) (toFifo : Bool) (s : State) : State × Disposition :=
  let s1 := { s with rs := s.rs.place x }
  if toFifo then offer x s1 else (s1, .notOffered)

/-- The two notices looked at after records have left the FIFO (04 R73). -/
def ResultStore.rearm (r : ResultStore) : ResultStore :=
  { r with levelArmed := r.levelArmed || (r.level != 0 && decide (r.fifo.length < r.level))
           fullArmed := r.fullArmed || decide (r.fifo.length ≤ 192) }

/-! ### The requests of RS -/

/-- One item of a READ_LATEST reply (12 §12.6). -/
def latestItem (c : Fin 16) (e : Option LatestEntry) : List Byte :=
  u8 (latestItemByte c e) ++ (match e with
    | none => []
    | some x => recordBytes x.record)

/-- READ_LATEST: every mask is valid; the fresh flags carried are then cleared (04 R68). -/
def ownReadLatest (b : List Byte) (s : State) : Verdict :=
  let mask := wordAt b 0
  .accept ((allChannels.filter fun c => bitOf mask c.val).flatMap fun c => latestItem c s.rs.latest[c])
    { s with rs := { s.rs with
        latest := vecOf fun c => if bitOf mask c.val then
          s.rs.latest[c].map fun x => { x with fresh := false } else s.rs.latest[c] } }

/-- READ_FIFO: the oldest records leave from the front, the dropped count is carried and cleared, and
the notices may rearm (04 R74, R73). -/
def ownReadFifo (b : List Byte) (s : State) : Verdict :=
  let most := byteAt b 0
  if most == 0 || 19 < most then .refuse .field 1
  else
    let rest := s.rs.fifo.drop most
    .accept (u16 rest.length ++ u16 s.rs.dropped ++ (s.rs.fifo.take most).flatMap recordBytes)
      { s with rs := { s.rs with fifo := rest, dropped := 0 }.rearm }

/-- FIFO_STATUS: the figures, changing nothing (04 R76). -/
def ownFifoStatus (s : State) : Verdict :=
  .accept (u16 s.rs.fifo.length ++ u16 s.rs.dropped ++ u16 s.rs.level ++ u8 (armingFlags s.rs)
    ++ u16 s.rs.nextSeq.toNat) s

/-- CLEAR_FIFO: the FIFO emptied, the dropped count cleared, both notices armed (04 R77). -/
def ownClearFifo (s : State) : Verdict :=
  .accept (u16 s.rs.fifo.length ++ u16 s.rs.dropped)
    { s with rs := { s.rs with fifo := [], dropped := 0, levelArmed := true, fullArmed := true } }

/-- SET_FIFO_LEVEL: the level written, and the level notice armed by the new level and the fill
(04 R78). -/
def ownSetFifoLevel (b : List Byte) (s : State) : Verdict :=
  let level := wordAt b 0
  if Config.fifoSize < level then .refuse .field 1
  else
    let armed := level == 0 || decide (s.rs.fifo.length < level)
    .accept (u16 level ++ u16 s.rs.fifo.length ++ u8 (flag armed))
      { s with rs := { s.rs with level := level, levelArmed := armed } }

end Sys2Proof.Machine
end

