-- ==== Sys2Proof/Machine/Watches.lean ====
section
/-! DEFINITION. The Watch Unit (05): the evaluation of a record by every watch on its channel, and the
requests SET_WATCH, CLEAR_WATCH and WATCH_STATUS. -/

namespace Sys2Proof.Machine

/-! ### Evaluation (05 §5.2) -/

/-- The candidate zone of a value from the present zone, the tests in the order written (05 R83). -/
def candidate (d : WatchDef) (zone : Option Zone) (value : Nat) : Zone :=
  match zone with
  | none | some .inside =>
    if d.high < value then .above else if value < d.low then .below else .inside
  | some .above =>
    if value < d.low then .below else if value ≤ d.high - d.hysteresis then .inside else .above
  | some .below =>
    if d.high < value then .above else if d.low + d.hysteresis ≤ value then .inside else .below

/-- An entry with no pending zone (05 R82, R84). -/
def WatchEntry.settle (e : WatchEntry) : WatchEntry := { e with pending := none, count := 0 }

/-- How many records in a row, this one among them, point to `c` (05 R84 steps 2 and 3). -/
def agreeing (e : WatchEntry) (c : Zone) : Nat := if e.pending = some c then e.count + 1 else 1

/-- The entry after a record points to `c`, and whether its zone has changed to `c` (05 R84). -/
def confirmZone (e : WatchEntry) (c : Zone) (seq : BitVec 16) : WatchEntry × Bool :=
  if e.zone = some c then (e.settle, false)
  else if agreeing e c = e.defn.confirm then
    ({ e with zone := some c, pending := none, count := 0, zoneSeq := some seq }, true)
  else ({ e with pending := some c, count := agreeing e c }, false)

/-- The action record of a zone (05 R79). -/
def WatchDef.action (d : WatchDef) : Zone → Option WatchAction
  | .below => d.onBelow
  | .inside => d.onInside
  | .above => d.onAbove

/-- The WATCH_ZONE notice of a change of watch `w` (05 R87). -/
def zoneNotice (w : Fin 12) (d : WatchDef) (old : Option Zone) (new : Zone) (r : Record) : NoticeBody :=
  .watchZone w d.channel old (some new) old.isNone r.value r.seq

/-- The output action of a crossing, taken in RUN only (05 R88). -/
def watchOutput (w : Fin 12) (a : Option WatchAction) (s : State) : State :=
  match a with
  | some { output := some (line, level), .. } =>
    if s.nc.state = .run then s.writeLine line level (.watch w) else s
  | _ => s

/-- A zone change of watch `w`: an initial zone raises its notice and nothing else (05 R85); a crossing
takes its notice, its output and its trigger, in that order (05 R86). Claims its triggers make wait for
the close of the completion (02 R36). -/
def zoneChanged (w : Fin 12) (d : WatchDef) (old : Option Zone) (new : Zone) (r : Record) (s : State) :
    State :=
  match old with
  | none => s.raise (zoneNotice w d old new r)
  | some _ =>
    let a := d.action new
    let noted := s.raiseIf ((a.map WatchAction.notify).getD false) (zoneNotice w d old new r)
    deliver true (.watch w new) (watchOutput w a noted)

/-- Watch `w` evaluates a record: another channel and an UNUSED entry are not touched, an OPEN record is
skipped (05 R81, R82). -/
def evaluate (r : Record) (s : State) (w : Fin 12) : State :=
  match s.watch w with
  | none => s
  | some e =>
    if e.defn.channel ≠ r.channel then s
    else if r.flags.openInput then s.setWatch w (some e.settle)
    else
      let c := candidate e.defn e.zone r.value
      let after := confirmZone e c r.seq
      let s1 := s.setWatch w (some after.1)
      if after.2 then zoneChanged w e.defn e.zone c r s1 else s1

/-- Every watch evaluates the record, one after another in increasing order, each to its end before the
next (05 R81). -/
def evaluateAll (r : Record) (s : State) : State := allWatches.foldl (evaluate r) s

/-! ### The requests of WU (05 §5.4) -/

/-- SET_WATCH: the definition written, the running state UNKNOWN (05 R91). -/
def ownSetWatch (b : List Byte) (s : State) : Verdict :=
  match below 12 (byteAt b 0) with
  | none => .refuse .field 1
  | some w => match parseWatchDef b with
    | .error d => .refuse .field d
    | .ok d => .accept (u8 w.val ++ u8 (flag (s.watch w).isSome)) (s.setWatch w (some (.fresh d)))

/-- CLEAR_WATCH: the entry UNUSED; outcome 1 CLEARED, 2 NOT_DEFINED (05 R92). -/
def ownClearWatch (b : List Byte) (s : State) : Verdict :=
  match below 12 (byteAt b 0) with
  | none => .refuse .field 1
  | some w =>
    .accept (u8 w.val ++ u8 (if (s.watch w).isSome then 1 else 2)) (s.setWatch w none)

/-- One item of a WATCH_STATUS reply (12 §12.6). -/
def watchItem (w : Fin 12) (e : Option WatchEntry) : List Byte :=
  match e with
  | none => u8 w.val ++ u8 0
  | some x =>
    u8 w.val ++ u8 1 ++ watchDefBytes x.defn ++ u8 (zoneCode x.zone) ++ u8 (zoneCode x.pending)
      ++ u8 x.count ++ u16 ((x.zoneSeq.map BitVec.toNat).getD 0)

/-- WATCH_STATUS: a mask with a bit for watches 12 to 15 is refused (05 R94). -/
def ownWatchStatus (b : List Byte) (s : State) : Verdict :=
  let mask := wordAt b 0
  if 4095 < mask then .refuse .field 1
  else .accept ((allWatches.filter fun w => bitOf mask w.val).flatMap fun w => watchItem w (s.watch w)) s

end Sys2Proof.Machine
end

