-- ==== Sys2Proof/Machine/Converting.lean ====
section
/-! DEFINITION. The Converter and its completions (03, 02 §2.5): the four events of a conversion in time,
and SET_CHANNEL. -/

namespace Sys2Proof.Machine

/-! ### Completion (02 R39, 03 R60) -/

/-- The source a record takes from the grant record (02 R39). -/
def Owner.source : Owner → Source
  | .list k step => .list k step
  | .ticket n _ _ => .ticket n

/-- The to-FIFO flag of a record's source: the list's, or the ticket's (02 R39). -/
def ownerToFifo (s : State) : Owner → Bool
  | .list k _ => s.listFlag k ListDef.toFifo
  | .ticket _ toFifo _ => toFifo

/-- The record the converter composes, with the source from the grant; RS gives the sequence number
(03 R60, R57). -/
def composeRecord (c : Context) (src : Source) : Record :=
  { seq := 0, value := c.sum / c.options.averaging.count, stamp := c.firstSample.getD 0,
    channel := c.channel, flags := recordFlags c, source := src }

/-- The record passed to its owner: a list takes it, a ticket with notify raises CONVERT_DONE
(02 R39 stage 3, R40). -/
def recordToOwner (o : Owner) (x : Record) (d : Disposition) (s : State) : State :=
  match o with
  | .list k _ => recordToList k (d == .dropped) s
  | .ticket n _ notify => s.raiseIf notify (.convertDone n x)

/-- A conversion completes: the grant closed and the converter IDLE; the record numbered, stored and
evaluated by the watches; passed to its owner; and a grant made (02 R39). -/
def complete (c : Context) (s : State) : State :=
  match s.ca.grant with
  | none => s.abandon
  | some g =>
    let closed := s.abandon
    let x := closed.rs.number (composeRecord c g.owner.source)
    let stored := storeRecord x (ownerToFifo s g.owner) closed
    makeGrant (recordToOwner g.owner x stored.2 (evaluateAll x stored.1))

/-! ### The phases (03 §3.4) -/

/-- The converter's state set; nothing else. -/
def State.setConverter (s : State) (x : ConverterState) : State :=
  { s with cv := { s.cv with state := x } }

/-- The time of one sample: 8 µs in STANDARD, 3 µs in FAST (03 R54). -/
def sampleTime : Mode → Stamp
  | .standard => 8
  | .fast => 3

/-- The CHECKING phase ends: both readings are held, and the converter settles (03 R53). DESIGN CHOICE,
log 16: both readings become present in the context here, at the phase end; R53 has the charged reading
taken partway through the phase and the discharged one just before its end, at stamps it does not give. -/
def endCheck (c : Context) (charged discharged : BitVec 12) (s : State) : State :=
  s.setConverter (.settling { c with
    charged := some (fastCode charged), discharged := some (fastCode discharged),
    phaseEnd := c.phaseEnd + BitVec.ofNat 32 c.options.settle })

/-- The settle time ends: the first-sample stamp is taken and the first sample begins (03 R54). -/
def endSettle (c : Context) (s : State) : State :=
  s.setConverter (.sampling { c with
    firstSample := some s.now, phaseEnd := s.now + sampleTime c.options.mode })

/-- The context with one more sample (03 R55 steps 1 and 2). -/
def addSample (c : Context) (level : BitVec 12) : Context :=
  let code := sampleCode c.options.mode level
  { c with sum := c.sum + code, samples := c.samples + 1,
           highSeen := c.highSeen || code == maxCode c.options.mode,
           lowSeen := c.lowSeen || code == 0 }

/-- A sample ends: it is added, and the next sample begins or the conversion completes (03 R55). -/
def endSample (c : Context) (level : BitVec 12) (s : State) : State :=
  let c1 := addSample c level
  if c1.samples < c1.options.averaging.count then
    s.setConverter (.sampling { c1 with phaseEnd := c1.phaseEnd + sampleTime c1.options.mode })
  else complete c1 s

/-- CALIBRATION_END: the converter becomes IDLE, and a grant is made at once (03 R51). -/
def calibrationEnd (s : State) : State :=
  match s.cv.state with
  | .calibrating => s.whenDue s.cv.due fun s => makeGrant (s.setConverter .idle)
  | _ => s

/-- CHECK_END, where the converter is CHECKING (03 R53). -/
def checkEnd (charged discharged : BitVec 12) (s : State) : State :=
  match s.cv.state with
  | .checking c => s.whenDue s.cv.due (endCheck c charged discharged)
  | _ => s

/-- SETTLE_END, where the converter is SETTLING (03 R54). -/
def settleEnd (s : State) : State :=
  match s.cv.state with
  | .settling c => s.whenDue s.cv.due (endSettle c)
  | _ => s

/-- SAMPLE_END, where the converter is SAMPLING (03 R55). -/
def sampleEnd (level : BitVec 12) (s : State) : State :=
  match s.cv.state with
  | .sampling c => s.whenDue s.cv.due (endSample c level)
  | _ => s

/-- The meaning of CALIBRATION_END (03 R51). -/
def execCalibrationEnd (s : State) : Host.Outcome State Fault Refusal := .next (calibrationEnd s)

/-- The meaning of CHECK_END (03 R53). -/
def execCheckEnd (charged discharged : BitVec 12) (s : State) : Host.Outcome State Fault Refusal :=
  .next (checkEnd charged discharged s)

/-- The meaning of SETTLE_END (03 R54). -/
def execSettleEnd (s : State) : Host.Outcome State Fault Refusal := .next (settleEnd s)

/-- The meaning of SAMPLE_END (03 R55). -/
def execSampleEnd (level : BitVec 12) (s : State) : Host.Outcome State Fault Refusal :=
  .next (sampleEnd level s)

/-! ### SET_CHANNEL (03 R49) -/

/-- A channel setting with each given field written and each absent one left (03 R49). -/
def Options.merge (x : Options) (g : OptGroup) : Options :=
  { settle := g.settle.getD x.settle, averaging := g.averaging.getD x.averaging,
    mode := g.mode.getD x.mode, check := g.check.getD x.check }

/-- SET_CHANNEL: the given fields written for every masked channel, and the whole table returned
(03 R49). -/
def ownSetChannel (b : List Byte) (s : State) : Verdict :=
  match parseOptGroup b 2 with
  | .error d => .refuse .field d
  | .ok g =>
    let table := vecOf fun c : Fin 16 =>
      if bitOf (wordAt b 0) c.val then s.cv.settings[c].merge g else s.cv.settings[c]
    .accept (allChannels.flatMap fun c => optGroupBytes table[c].group)
      { s with cv := { s.cv with settings := table } }

end Sys2Proof.Machine
end

