-- ==== Sys2Proof/Machine/Lists.lean ====
section
/-! DEFINITION. The requests the Scan Engine owns: WRITE_STEPS, READ_STEPS, DEFINE_LIST, START_LIST,
STOP_LIST, LIST_STATUS and CLEAR_LIST, and the three events of a list in time, WAIT_EXPIRY,
AWAIT_TIMEOUT and REST_STAMP (01). -/

namespace Sys2Proof.Machine

/-! ### The step memory (01 R3, R4) -/

/-- The checks of a first step number and count: the first step above 127, then a count outside 1 to 59
or a sum above 128 (01 R3, R4). -/
def stepRangeError (b : List Byte) : Option Nat :=
  if 127 < byteAt b 0 then some 1
  else if byteAt b 1 == 0 || 59 < byteAt b 1 || 128 < byteAt b 0 + byteAt b 1 then some 2
  else none

/-- Whether a list that is ARMED, ACTIVE or RESTING covers one of `count` steps from `first` on
(01 R3). -/
def stepsInUse (e : ScanEngine) (first count : Nat) : Bool :=
  allLists.any fun k =>
    match e.lists[k].defn with
    | none => false
    | some d => e.lists[k].state.running && d.firstStep < first + count
        && first < d.firstStep + d.stepCount

/-- The given records written in order from step `n` on (01 R3). -/
def writeSteps (v : Vector StepRecord 128) (n : Nat) : List StepRecord → Vector StepRecord 128
  | [] => v
  | r :: rest => writeSteps (v.setIfInBounds n r) (n + 1) rest

/-- WRITE_STEPS (01 R3). -/
def ownWriteSteps (b : List Byte) (s : State) : Verdict :=
  match stepRangeError b with
  | some d => .refuse .field d
  | none => match parseSteps b 2 (byteAt b 1) with
    | .error d => .refuse .field d
    | .ok rs =>
      if stepsInUse s.se (byteAt b 0) (byteAt b 1) then .refuse .busy 0
      else .accept [] { s with se := { s.se with steps := writeSteps s.se.steps (byteAt b 0) rs } }

/-- READ_STEPS (01 R4). -/
def ownReadSteps (b : List Byte) (s : State) : Verdict :=
  match stepRangeError b with
  | some d => .refuse .field d
  | none =>
    .accept (u8 (byteAt b 0) ++ u8 (byteAt b 1)
      ++ ((s.se.steps.toList.drop (byteAt b 0)).take (byteAt b 1)).flatMap stepBytes) s

/-! ### The list table (01 R7, R8, R28) -/

/-- DEFINE_LIST (01 R7): the new definition, READY, with progress, counters and end record as a reset
leaves them. -/
def ownDefineList (b : List Byte) (s : State) : Verdict :=
  match below 8 (byteAt b 0) with
  | none => .refuse .field 1
  | some k => match parseListDef b k with
    | .error d => .refuse .field d
    | .ok d =>
      if (s.list k).state.running then .refuse .busy 0
      else .accept (u8 k.val) (s.updList k fun _ => .fresh (some d))

/-- CLEAR_LIST (01 R8). -/
def ownClearList (b : List Byte) (s : State) : Verdict :=
  match below 8 (byteAt b 0) with
  | none => .refuse .field 1
  | some k =>
    if (s.list k).state.running then .refuse .busy 0
    else .accept (u8 k.val) (s.updList k fun _ => .fresh none)

/-- The end reason and end stamp as sent, both 0 for NONE (12 §12.1). -/
def endRecordBytes : Option (EndReason × Stamp) → List Byte
  | none => u8 0 ++ u32 0
  | some (reason, t) => u8 reason.code ++ u32 t.toNat

/-- The LIST_STATUS reply (01 R28, 12 §12.6). -/
def listStatusBytes (k : Fin 8) (l : ListRecord) : List Byte :=
  u8 k.val ++ u8 l.state.code
    ++ (match l.defn with
        | none => List.replicate 13 0
        | some d => listDefBytes d)
    ++ u8 l.stepIndex ++ u16 l.passes ++ u32 l.runStart.toNat ++ u32 l.passStart.toNat
    ++ u8 (progressFlags l) ++ u32 (l.expiry.getD 0).toNat ++ u16 l.missed ++ u16 l.overruns
    ++ u16 l.preemptions ++ endRecordBytes l.endRecord

/-- LIST_STATUS (01 R28). -/
def ownListStatus (b : List Byte) (s : State) : Verdict :=
  match below 8 (byteAt b 0) with
  | none => .refuse .field 1
  | some k => .accept (listStatusBytes k (s.list k)) s

/-! ### START_LIST and STOP_LIST (01 R25 to R27) -/

/-- START_LIST outcome: 1 STARTED, 2 ARMED, 3 ALREADY_ARMED, 4 RESTARTED, 5 QUEUED, 6 MISSED. -/
def retriggerOutcome : Retrigger → Nat
  | .restarted => 4
  | .queued => 5
  | .missed => 6

/-- A READY list that waits for triggers becomes ARMED, its passes and counters 0 (01 R25). -/
def armList (k : Fin 8) (s : State) : State :=
  s.updList k fun l =>
    { l with state := .armed, passes := 0, missed := 0, overruns := 0, preemptions := 0 }

/-- The reply to START_LIST: list, outcome, and the list's state after (01 R25). -/
def startReply (k : Fin 8) (outcome : Nat) (s : State) : Verdict :=
  .accept (u8 k.val ++ u8 outcome ++ u8 (s.list k).state.code) s

/-- START_LIST (01 R25). -/
def ownStartList (b : List Byte) (s : State) : Verdict :=
  match below 8 (byteAt b 0) with
  | none => .refuse .field 1
  | some k =>
    if s.nc.state ≠ .run then .refuse .state 0
    else match (s.list k).state, (s.list k).defn with
      | .undefined, _ | _, none => .refuse .absent 0
      | .ready, some d =>
        if d.source == .host then startReply k 1 (startRun false k s)
        else startReply k 2 (armList k s)
      | .armed, some _ => startReply k 3 s
      | .active, some d | .resting, some d =>
        if d.source == .host then
          startReply k (retriggerOutcome (retriggerOf (s.list k) d.policy))
            (retrigger false k d.policy s)
        else .refuse .busy 0

/-- STOP_LIST outcome: 1 STOPPED, 2 FINISHING, 3 NOT_RUNNING. -/
def stopReply (k : Fin 8) (outcome : Nat) (s : State) : Verdict :=
  .accept (u8 k.val ++ u8 outcome) s

/-- STOP_LIST taken with IMMEDIATE (01 R26); the grant that may follow the abandonment comes after the
whole of SE's handling (02 R36). -/
def stopNow (k : Fin 8) (s : State) : Verdict :=
  match (s.list k).state with
  | .active | .resting => stopReply k 1 (makeGrant (endRun true k .stopped s))
  | .armed => stopReply k 1 (disarm k .stopped s)
  | .undefined | .ready => stopReply k 3 s

/-- STOP_LIST taken with FINISH (01 R27). -/
def stopFinish (k : Fin 8) (s : State) : Verdict :=
  match (s.list k).state with
  | .active =>
    stopReply k 2 (s.updList k fun l => { l with stopPending := true, triggerPending := false })
  | .resting | .armed | .undefined | .ready => stopNow k s

/-- STOP_LIST: option 0 IMMEDIATE, 1 FINISH (01 R26, R27). -/
def ownStopList (b : List Byte) (s : State) : Verdict :=
  match below 8 (byteAt b 0), byteAt b 1 with
  | none, _ => .refuse .field 1
  | some k, 0 => stopNow k s
  | some k, 1 => stopFinish k s
  | some _, _ => .refuse .field 2

/-! ### A list's events in time -/

/-- WAIT_EXPIRY: the stamp reaches the expiry stamp of an ACTIVE list at a WAIT step, and the step
finishes (01 R14). Nothing happens for a list that is not there. -/
def waitExpiry (k : Fin 8) (s : State) : State :=
  match (s.list k).state, currentStep s k with
  | .active, some (.wait _) => s.whenDue (s.list k).due (finishStep false k)
  | _, _ => s

/-- AWAIT_TIMEOUT: the stamp reaches the expiry stamp of an ACTIVE list at an AWAIT step, and the run
ends, whatever the stop-pending flag says (01 R16). -/
def awaitTimeout (k : Fin 8) (s : State) : State :=
  match (s.list k).state, currentStep s k with
  | .active, some (.await _ _) => s.whenDue (s.list k).due (endRun false k .awaitTimeout)
  | _, _ => s

/-- A RESTING list becomes ACTIVE at its rest stamp, which is its pass start stamp, and begins step 0
(01 R19). -/
def leaveRest (k : Fin 8) (s : State) : State :=
  beginStep false k (s.updList k fun l =>
    { l with state := .active, stepIndex := 0, passStart := restStamp l })

/-- REST_STAMP: the stamp reaches the rest stamp of a RESTING list (01 R19). -/
def restReached (k : Fin 8) (s : State) : State :=
  match (s.list k).state with
  | .resting => s.whenDue (s.list k).due (leaveRest k)
  | _ => s

/-- The meaning of WAIT_EXPIRY (01 R14). -/
def execWaitExpiry (k : Fin 8) (s : State) : Host.Outcome State Fault Refusal :=
  .next (waitExpiry k s)

/-- The meaning of AWAIT_TIMEOUT (01 R16). -/
def execAwaitTimeout (k : Fin 8) (s : State) : Host.Outcome State Fault Refusal :=
  .next (awaitTimeout k s)

/-- The meaning of REST_STAMP (01 R19). -/
def execRestStamp (k : Fin 8) (s : State) : Host.Outcome State Fault Refusal :=
  .next (restReached k s)

end Sys2Proof.Machine
end

