-- ==== Sys2Proof/Machine/Polling.lean ====
section
/-! DEFINITION. The POLL request (08 §8.3): the acknowledgement, the building of the reply, the reply
header. -/

namespace Sys2Proof.Machine

/-- Losses not yet shown when the NOTICES_LOST notice is acknowledged are carried over into a new one
(08 R136). -/
def NoticeQueue.carryOver (q : NoticeQueue) (now : Stamp) : NoticeQueue :=
  match q.lost with
  | none => q
  | some r =>
    if r.carried < r.lost then
      { q with lost := none }.appendLost now (r.lost - r.carried) (r.firstUncarried.getD now)
    else { q with lost := none }

/-- The first stage: the delivered notice with sequence `a` and every notice before it are removed, or
nothing is and ack-unmatched is set (08 R133). -/
def NoticeQueue.acknowledge (q : NoticeQueue) (now : Stamp) (a : Nat) : NoticeQueue × Bool :=
  if a = 0 then (q, false)
  else match q.notices.findIdx? fun n => n.delivered && n.seq == a with
    | none => (q, true)
    | some i =>
      let q1 := { q with notices := q.notices.drop (i + 1) }
      (if (q.notices.take (i + 1)).any Notice.isLost then q1.carryOver now else q1, false)

/-- The notices a reply carries: the oldest, at most `most` of them, as long as the next one fits the
bytes left (08 R134). -/
def carriedNotices : (most room : Nat) → List Notice → List Notice
  | 0, _, _ => []
  | _, _, [] => []
  | most + 1, room, n :: rest =>
    if 8 + n.body.bytes.length ≤ room then
      n :: carriedNotices most (room - (8 + n.body.bytes.length)) rest
    else []

/-- The lost-notice record once a reply has carried the NOTICES_LOST notice (08 R131). -/
def LostRecord.shown (r : LostRecord) : LostRecord :=
  { r with carried := r.lost, firstUncarried := none }

/-- The queue once a reply has carried its first `n` notices: they are delivered, and a NOTICES_LOST
among them is shown (08 R134). -/
def NoticeQueue.deliver (q : NoticeQueue) (n : Nat) : NoticeQueue :=
  { q with
    notices := (q.notices.take n).map (fun x => { x with delivered := true }) ++ q.notices.drop n
    lost := if (q.notices.take n).any Notice.isLost then q.lost.map LostRecord.shown else q.lost }

/-- The bytes of a POLL reply body that follow its header (08 R134). -/
def pollRoom : Nat := 238

/-- POLL: a maximum count of 0 or above 16 is refused; then the three stages (08 R132 to R135). -/
def ownPoll (b : List Byte) (s : State) : Verdict :=
  let most := byteAt b 2
  if most == 0 || 16 < most then .refuse .field 3
  else
    let acked := s.nq.acknowledge s.now (wordAt b 0)
    let q := acked.1
    let carried := carriedNotices most pollRoom q.notices
    .accept (u8 q.notices.length
        ++ u8 (pollFlags acked.2 (decide (carried.length < q.notices.length)))
        ++ carried.flatMap noticeBytes)
      { s with nq := q.deliver carried.length }

end Sys2Proof.Machine
end

