-- ==== Sys2Proof/Machine/Schedules.lean ====
section
/-! DEFINITION. The Schedule Unit (07): the table of timed actions, its firing, and the requests
SCHEDULE, CANCEL_ACTION and SCHEDULE_STATUS. -/

namespace Sys2Proof.Machine

/-! ### The table (07 §7.2) -/

/-- An entry inserted: after every entry whose due stamp is nearer than its own or equal to it, before
every farther one (07 R115). -/
def insertEntry (now : Stamp) (e : ScheduleEntry) (table : List ScheduleEntry) : List ScheduleEntry :=
  let near := fun x : ScheduleEntry => decide (distance now x.due ≤ distance now e.due)
  table.takeWhile near ++ e :: table.dropWhile near

/-- Whether a handle belongs to an entry (07 R116). -/
def ScheduleUnit.handleUsed (u : ScheduleUnit) (h : Nat) : Bool := u.table.any fun e => e.handle == h

/-- The handle given to the next entry (07 R116). -/
def ScheduleUnit.freeHandle (u : ScheduleUnit) : Nat :=
  firstFree u.handleUsed Config.topHandle Config.topHandle u.nextHandle

/-- The table set; nothing else. -/
def State.setTable (s : State) (t : List ScheduleEntry) : State := { s with su := { s.su with table := t } }

/-! ### Firing (07 §7.4) -/

/-- An entry's effect: a line written with source SCHEDULE and the handle (07 R120), or a trigger to the
list it names (07 R121). -/
def actionEffect (e : ScheduleEntry) (s : State) : State :=
  match e.action with
  | .setLine line level => s.writeLine line level (.schedule e.handle)
  | .startList k => takeTrigger false .schedule k s

/-- The repeats remaining after a firing (07 R122). -/
def ScheduleEntry.repeatsAfter (e : ScheduleEntry) : Nat :=
  if e.period = 0 then e.repeats else e.repeats - 1

/-- Whether an entry stays in the table after a firing: a periodic one that repeats forever, or has
firings still to come (07 R122). -/
def ScheduleEntry.fireAgain (e : ScheduleEntry) : Bool :=
  e.period != 0 && (e.repeats == 0 || e.repeatsAfter != 0)

/-- The entry as it is re-inserted, one period later (07 R122). -/
def ScheduleEntry.later (e : ScheduleEntry) : ScheduleEntry :=
  { e with due := e.due + BitVec.ofNat 32 e.period, repeats := e.repeatsAfter }

/-- The table after the front entry's firing: removed, and re-inserted where it fires again
(07 R122). -/
def tableAfter (now : Stamp) (e : ScheduleEntry) (rest : List ScheduleEntry) : List ScheduleEntry :=
  if e.fireAgain then insertEntry now e.later rest else rest

/-- The front entry fires: its effect, its notice, its re-insertion or removal (07 R119). -/
def fireFront (s : State) : State :=
  match s.su.table with
  | [] => s
  | e :: rest =>
    let s1 := actionEffect e s
    let s2 := s1.raiseIf e.notify (.actionFired e.handle e.action e.repeatsAfter)
    s2.setTable (tableAfter s.now e rest)

/-- ACTION_FIRING: the stamp reaches the due stamp of the front entry (07 R119). -/
def actionFiring (s : State) : State := s.whenDue s.su.due fireFront

/-- The meaning of ACTION_FIRING (07 R119). -/
def execActionFiring (s : State) : Host.Outcome State Fault Refusal := .next (actionFiring s)

/-! ### The requests of SU (07 §7.3, §7.5) -/

/-- What a SCHEDULE body holds. -/
structure ScheduleBody where
  action : Action
  due : Stamp
  period : Nat
  repeats : Nat
  notify : Bool
  deriving DecidableEq, Repr

/-- Reads and checks the fields after the action, from offset `o` on: period, then repeats, which must
be 0 with a period of 0, then notify, which must be 0 or 1 (07 R117, log 8). -/
def parseTiming (b : List Byte) (o : Nat) (a : Action) : Except Nat ScheduleBody :=
  if !periodOk (longAt b (o + 4)) then .error (o + 5)
  else if longAt b (o + 4) = 0 ∧ wordAt b (o + 8) ≠ 0 then .error (o + 9)
  else if 1 < byteAt b (o + 10) then .error (o + 11)
  else .ok { action := a, due := BitVec.ofNat 32 (longAt b o), period := longAt b (o + 4),
             repeats := wordAt b (o + 8), notify := byteAt b (o + 10) == 1 }

/-- Whether list `k`'s trigger source is SCHEDULE as its definition stands (07 R117). -/
def scheduled (s : State) (k : Fin 8) : Bool := s.listFlag k fun d => d.source == .schedule

/-- Reads and checks a SCHEDULE body, field by field (07 R117). -/
def parseSchedule (b : List Byte) (s : State) : Except Nat ScheduleBody :=
  match byteAt b 0 with
  | 1 => match below 4 (byteAt b 1) with
    | none => .error 2
    | some line => match levelOf (byteAt b 2) with
      | none => .error 3
      | some level => parseTiming b 3 (.setLine line level)
  | 2 => match below 8 (byteAt b 1) with
    | none => .error 2
    | some k => if scheduled s k then parseTiming b 2 (.startList k) else .error 2
  | _ => .error 1

/-- Whether a due stamp lies 1 to 2^31 - 1 µs ahead (07 R117). -/
def dueAhead (now due : Stamp) : Bool := 1 ≤ distance now due && distance now due ≤ Config.window

/-- The new entry placed under its handle (07 R116, R118). -/
def placeEntry (e : ScheduleEntry) (s : State) : State :=
  { s with su := { table := insertEntry s.now e s.su.table,
                   nextHandle := nextNumber Config.topHandle e.handle } }

/-- SCHEDULE: FIELD, STATE, FULL and LATE in that order, then the entry placed; the reply gives its
handle and position (07 R117, R118). -/
def ownSchedule (b : List Byte) (s : State) : Verdict :=
  match parseSchedule b s with
  | .error d => .refuse .field d
  | .ok x =>
    if s.nc.state ≠ .run then .refuse .state 0
    else if Config.scheduleSize ≤ s.su.table.length then .refuse .full 0
    else if !dueAhead s.now x.due then .refuse .late 0
    else
      let h := s.su.freeHandle
      let s1 := placeEntry { handle := h, due := x.due, action := x.action, period := x.period,
                             repeats := x.repeats, notify := x.notify } s
      .accept (u8 h ++ u8 (s1.su.table.findIdx (fun e => e.handle == h) + 1)) s1

/-- CANCEL_ACTION: the entry removed by its handle (07 R123). -/
def ownCancelAction (b : List Byte) (s : State) : Verdict :=
  let h := byteAt b 0
  if h == 0 then .refuse .field 1
  else match s.su.table.find? fun e => e.handle == h with
    | none => .refuse .absent 0
    | some e =>
      .accept (u8 h ++ u8 e.action.code ++ u32 e.due.toNat ++ u16 e.repeats)
        (s.setTable (s.su.table.filter fun e => e.handle != h))

/-- SCHEDULE_STATUS: up to 14 entries from a start position (07 R124). -/
def ownScheduleStatus (b : List Byte) (s : State) : Verdict :=
  let start := byteAt b 0
  if 23 < start then .refuse .field 1
  else .accept (u8 s.su.table.length ++ u8 start ++ u8 s.su.nextHandle ++ u32 s.now.toNat
      ++ ((s.su.table.drop start).take 14).flatMap scheduleEntryBytes) s

end Sys2Proof.Machine
end

