-- ==== Sys2Proof/Machine/Tickets.lean ====
section
/-! DEFINITION. The Conversion Arbiter's requests CONVERT and CANCEL_CONVERT: tickets, preemption and
cancellation (02 §2.3, §2.6, §2.7). -/

namespace Sys2Proof.Machine

/-- The number of the ticket in flight, if a ticket owns the conversion. -/
def Arbiter.inFlightTicket (a : Arbiter) : Option Nat :=
  match a.grant with
  | some { owner := .ticket n _ _, .. } => some n
  | _ => none

/-- Whether a ticket number belongs to a waiting ticket or to the one in flight (02 R34). -/
def Arbiter.numberUsed (a : Arbiter) (n : Nat) : Bool :=
  a.queue.any (fun t => t.number == n) || a.inFlightTicket == some n

/-- The number given to the next ticket (02 R34). -/
def Arbiter.freeNumber (a : Arbiter) : Nat :=
  firstFree a.numberUsed Config.topTicket Config.topTicket a.nextTicket

/-- The list whose preemptible conversion is in flight (02 R41). -/
def preemptible (s : State) : Option (Fin 8) :=
  match s.ca.grant with
  | some { owner := .list k _, .. } => if s.listFlag k ListDef.preemptible then some k else none
  | _ => none

/-- What follows the placing of a ticket: a preemptible list's conversion gives way, and a grant is made
where the converter is free (02 R41, R36). -/
def afterPlacing (s : State) : State :=
  match preemptible s with
  | some k => makeGrant (listPreempted k s.abandon)
  | none => makeGrant s

/-- A new ticket numbered and placed at the back of the queue (02 R34, R35). -/
def placeTicket (c : Fin 16) (g : OptGroup) (toFifo notify : Bool) (s : State) : State :=
  let n := s.ca.freeNumber
  { s with ca := { s.ca with
      queue := s.ca.queue ++ [{ number := n, channel := c, options := g, toFifo, notify }],
      nextTicket := nextNumber Config.topTicket n } }

/-- The queue position of ticket `n`: 0 when its conversion is in flight, else its place among the
waiting tickets (02 R35). -/
def queuePosition (a : Arbiter) (n : Nat) : Nat :=
  if a.inFlightTicket == some n then 0 else a.queue.findIdx (fun t => t.number == n) + 1

/-- CONVERT (02 R35). -/
def ownConvert (b : List Byte) (s : State) : Verdict :=
  match below 16 (byteAt b 0) with
  | none => .refuse .field 1
  | some c => match parseOptGroup b 1 with
    | .error d => .refuse .field d
    | .ok g =>
      if Config.maxTickets ≤ s.ca.queue.length then .refuse .full 0
      else
        let n := s.ca.freeNumber
        let s1 := afterPlacing (placeTicket c g (bitOf (byteAt b 4) 0) (bitOf (byteAt b 4) 1) s)
        .accept (u8 n ++ u8 (queuePosition s1.ca n)) s1

/-- CANCEL_CONVERT: outcome 1 REMOVED, 2 ABANDONED with the grant that follows, 3 NOT_FOUND
(02 R45). -/
def ownCancelConvert (b : List Byte) (s : State) : Verdict :=
  let n := byteAt b 0
  if n == 0 || Config.topTicket < n then .refuse .field 1
  else if s.ca.queue.any fun t => t.number == n then
    .accept (u8 n ++ u8 1)
      { s with ca := { s.ca with queue := s.ca.queue.filter fun t => t.number != n } }
  else if s.ca.inFlightTicket == some n then .accept (u8 n ++ u8 2) (makeGrant s.abandon)
  else .accept (u8 n ++ u8 3) s

end Sys2Proof.Machine
end

