-- ==== Sys2Proof/Machine/Requests.lean ====
section
/-! DEFINITION. The Request Handler (09): the owner of each kind, IDENTIFY and ECHO, the taking of an
addressed or a broadcast frame, and the reply cache. -/

namespace Sys2Proof.Machine

/-! ### IDENTIFY, ECHO and the owners -/

/-- IDENTIFY: part code, revision, unit number, strapped address and rate (09 R155). -/
def ownIdentify (s : State) : Verdict :=
  .accept (u16 Config.partCode ++ u8 Config.revision ++ u48 Config.unitNumber.toNat
    ++ u8 s.li.straps.address.toNat ++ u8 (rateCode s.li.straps)) s

/-- ECHO: the body unchanged (09 R156). -/
def ownEcho (b : List Byte) (s : State) : Verdict := .accept b s

/-- The request passed to the block that owns its kind (09 R143 stage 3, §9.5). -/
def owner (k : Kind) (b : List Byte) (s : State) : Verdict :=
  match k with
  | .identify => ownIdentify s
  | .echo => ownEcho b s
  | .status => ownStatus s
  | .go => ownGo s
  | .halt => ownHalt s
  | .restart => ownRestart s
  | .setSilence => ownSetSilence b s
  | .mark => ownMark s
  | .setChannel => ownSetChannel b s
  | .convert => ownConvert b s
  | .cancelConvert => ownCancelConvert b s
  | .writeSteps => ownWriteSteps b s
  | .readSteps => ownReadSteps b s
  | .defineList => ownDefineList b s
  | .startList => ownStartList b s
  | .stopList => ownStopList b s
  | .listStatus => ownListStatus b s
  | .clearList => ownClearList b s
  | .readLatest => ownReadLatest b s
  | .readFifo => ownReadFifo b s
  | .fifoStatus => ownFifoStatus s
  | .clearFifo => ownClearFifo s
  | .setFifoLevel => ownSetFifoLevel b s
  | .setWatch => ownSetWatch b s
  | .clearWatch => ownClearWatch b s
  | .watchStatus => ownWatchStatus b s
  | .readStamp => ownReadStamp s
  | .setCapture => ownSetCapture b s
  | .readCaptures => ownReadCaptures b s
  | .schedule => ownSchedule b s
  | .cancelAction => ownCancelAction b s
  | .scheduleStatus => ownScheduleStatus b s
  | .setOutput => ownSetOutput b s
  | .setSafeLevels => ownSetSafeLevels b s
  | .outputStatus => ownOutputStatus s
  | .poll => ownPoll b s

/-- The checks of R146 in their order, RH's two and then the owner's: an unknown kind, a wrong body
length, the owner's verdict. -/
def decideRequest (f : Frame) (s : State) : Verdict :=
  match kindOf f.kind with
  | none => .refuse .kind 0
  | some k => if bodyLengthOk k f.body then owner k f.body s else .refuse .length 0

/-! ### Taking a frame -/

/-- The request in hand set; nothing else. -/
def State.hold (s : State) (h : Option (Frame × Phase)) : State :=
  { s with rh := { s.rh with inHand := h } }

/-- A reply handed to the Line Interface: the request is REPLYING and the transmitter in TURNAROUND
(09 R142, 10 R167). -/
def State.send (s : State) (f reply : Frame) : State :=
  { s.hold (some (f, .replying)) with li := { s.li with tx := .turnaround reply } }

/-- The reply placed in the cache with the request's sequence number and CRC (09 R151). -/
def State.cache (s : State) (f reply : Frame) : State :=
  { s with rh := { s.rh with cache := some { seq := f.seq, crc := f.crc, reply := reply } } }

/-- Whether a frame's sequence number and CRC both equal those held in the cache (09 R150). -/
def CacheEntry.matches (c : CacheEntry) (f : Frame) : Bool := c.seq == f.seq && c.crc == f.crc

/-- The reply frame a verdict calls for, and the state it leaves (09 R147, R148). -/
def replyTo (f : Frame) (s : State) : Verdict → Frame × State
  | .refuse reason detail => (refusalFrame s.li.straps f reason detail, s)
  | .accept body after => (replyFrame s.li.straps f body, after)

/-- An addressed request executed: decided, its reply built, cached and handed over (09 R143 stages 2
to 5). -/
def executeAddressed (f : Frame) (s : State) : State :=
  let s1 := s.hold (some (f, .executing))
  let answer := replyTo f s1 (decideRequest f s1)
  (answer.2.cache f answer.1).send f answer.1

/-- An addressed frame taken: answered from the cache where it matches, else executed (09 R143, R150). -/
def takeAddressed (f : Frame) (s : State) : State :=
  match s.rh.cache with
  | some c => if c.matches f then s.send f (markCached c.reply) else executeAddressed f s
  | none => executeAddressed f s

/-- The line counters changed by `f`; nothing else. -/
def State.count (s : State) (f : LineCounters → LineCounters) : State :=
  { s with li := { s.li with counters := f s.li.counters } }

/-- Whether a kind code is one of the five that may be sent as a broadcast (09 R153). -/
def eligible (c : Byte) : Bool :=
  match kindOf c with
  | some k => broadcastEligible k
  | none => false

/-- A broadcast frame taken: carried out without a reply where every check passes, ignored where one
fails, set aside and counted where its kind is not eligible (09 R153, R154). -/
def takeBroadcast (f : Frame) (s : State) : State :=
  if eligible f.kind then
    match decideRequest f (s.hold (some (f, .executing))) with
    | .accept _ after => after.hold none
    | .refuse _ _ => s
  else s.count fun c => { c with ignored := saturate (c.ignored + 1) }

end Sys2Proof.Machine
end

