-- ==== Sys2Proof/Machine/Resets.lean ====
section
/-! DEFINITION. The three resets (11 R170, R179): what every block takes, and STARTED as a reset ends. -/

namespace Sys2Proof.Machine

/-! ### What the blocks take -/

/-- An output line after a SOFT reset: at its safe level, with source RESET (06 R108). -/
def OutputLine.softReset (l : OutputLine) : OutputLine :=
  { level := l.safe, safe := l.safe, source := .reset, stamp := 0 }

/-- TCU after a reset: the stamp 0, the log empty, the contexts discarded, every settled level its
pin's (06 R95, R98, R103). -/
def Timebase.restart (t : Timebase) (settings : Fin 4 → CaptureInput) : Timebase :=
  { stamp := 0, inputs := vecOf fun k => { settings k with settled := t.pins[k], context := none },
    pins := t.pins, log := [], dropped := 0, overflowArmed := true }

/-- LI after a reset: SYNCING, IDLE, all counters 0; the straps as given (10 R157, R161, R168, R169). -/
def lineAfterReset (straps : Straps) : LineInterface :=
  { straps := straps, rx := .syncing, tx := .idle, counters := .reset }

/-- Every block at its POR or PIN values, with the cause; the straps and the capture pins are the
state's, the queue is emptied, and STARTED is still to come (11 R170 and each block's chapter). -/
def hardReset (cause : ResetCause) (s : State) : State :=
  { s with
    se := .reset, ca := .reset, cv := .reset, rs := .reset 0, wu := .reset,
    tcu := s.tcu.restart fun _ => .reset
    ou := .reset, su := .reset, nq := .reset,
    rh := { inHand := none, cache := none }
    li := lineAfterReset s.li.straps
    nc := { state := .standby, cause := cause, silence := 0, timer := none, restartPending := false } }

/-- STARTED as a reset ends, with the cause and the strapped address and rate (11 R170). -/
def raiseStarted (s : State) : State := s.raise (.started s.nc.cause s.li.straps)

/-- A POR or PIN reset ends: the straps are read, each settled level is what its pin holds, and STARTED
is raised (10 R157, 06 R98, 11 R170). -/
def endHardReset (straps : Straps) (s : State) : State :=
  raiseStarted { hardReset s.nc.cause s with li := lineAfterReset straps, resetHeld := false }

/-- A SOFT reset: every block at its SOFT values, and STARTED with cause SOFT (11 R179). The step
memory, the list definitions, the channel settings, the watch definitions, the capture settings, the
safe levels, the fill level, the silence time, the straps and the reply cache are kept. -/
def softReset (s : State) : State :=
  raiseStarted { s with
    se := { s.se with lists := vecOf fun k => .fresh (s.list k).defn }
    ca := .reset
    cv := { s.cv with state := .idle }
    rs := .reset s.rs.level
    wu := { watches := vecOf fun w => (s.watch w).map fun e => .fresh e.defn }
    tcu := s.tcu.restart fun k => s.input k
    ou := { lines := vecOf fun k => (s.line k).softReset }
    su := .reset, nq := .reset
    rh := { s.rh with inHand := none }
    li := lineAfterReset s.li.straps
    nc := { s.nc with state := .standby, cause := .soft, timer := none, restartPending := false } }

/-! ### The commands -/

/-- POR: one whole reset with cause POWER. With the reset pin driven the node stays held, and the two
end together when the pin is released (11 R170). -/
def por (straps : Straps) (s : State) : State :=
  if s.resetHeld then hardReset .power s else endHardReset straps (hardReset .power s)

/-- PIN_RESET: the pin is driven, and the node is held in reset: any sending stops, the cache is EMPTY,
every block is at its PIN values. A pin already driven stays so, and the cause too (11 R170, 09 R149). -/
def pinReset (s : State) : State :=
  if s.resetHeld then s else { hardReset .pin s with resetHeld := true }

/-- PIN_RELEASE: the reset that held the node ends. Nothing happens where the pin was not driven
(11 R170). -/
def pinRelease (straps : Straps) (s : State) : State :=
  if s.resetHeld then endHardReset straps s else s

/-- The meaning of POR (11 R170). -/
def execPor (straps : Straps) (s : State) : Host.Outcome State Fault Refusal := .next (por straps s)

/-- The meaning of PIN_RESET (11 R170). -/
def execPinReset (s : State) : Host.Outcome State Fault Refusal := .next (pinReset s)

/-- The meaning of PIN_RELEASE (11 R170). -/
def execPinRelease (straps : Straps) (s : State) : Host.Outcome State Fault Refusal :=
  .next (pinRelease straps s)

end Sys2Proof.Machine
end

