-- ==== Sys2Proof/Machine/Line.lean ====
section
/-! DEFINITION. The Line Interface (10): the receiver's states, the fate of a frame, the transmitter, and
the events CHARACTER_COMPLETE, GAP, SENDING_START and SENDING_END. -/

namespace Sys2Proof.Machine

/-! ### The receiver (10 §10.3) -/

/-- The receiver in a state; nothing else. -/
def State.setRx (s : State) (r : Receiver) : State := { s with li := { s.li with rx := r } }

/-- The transmitter in a state; nothing else. -/
def State.setTx (s : State) (t : Transmitter) : State := { s with li := { s.li with tx := t } }

/-- Whether the node is listen-only: strapped to 0 or 31 (10 R157). -/
def listenOnly (t : Straps) : Bool := t.address == 0 || t.address == 31

/-- Whether a first character is this node's own address, which a listen-only node has none of
(10 R162). -/
def ownAddress (t : Straps) (c : Byte) : Bool := !listenOnly t && c.toNat == t.address.toNat

/-- The broadcast address (09 §9.4). -/
def broadcastAddress : Byte := 31

/-- What a complete character does to the receiver (10 R161, R162, R163): the new receiver state, and
the counter it increases. DESIGN CHOICE, log 15: a framing error with 246 characters already in the
buffer, which is also the 247th character, is counted as a framing error and not as a malformed frame;
both sentences of R162 fit it, and R169 allows one count. -/
def receive (t : Straps) (rx : Receiver) (value : Byte) (good : Bool) :
    Receiver × (LineCounters → LineCounters) :=
  match rx, good with
  | .ready, true =>
    (if ownAddress t value || value == broadcastAddress then .receiving [value] else .skipping, id)
  | .ready, false | .receiving _, false =>
    (.discarding, fun c => { c with framing := saturate (c.framing + 1) })
  | .receiving buf, true =>
    if buf.length < Config.maxFrame then (.receiving (buf ++ [value]), id)
    else (.discarding, fun c => { c with malformed := saturate (c.malformed + 1) })
  | rx, _ => (rx, id)

/-- CHARACTER_COMPLETE: the receiver takes a good character or a framing error (10 R158). A node held in
reset takes none, nor does the receiver while the transmitter sends, when it is `off`. -/
def characterComplete (value : Byte) (good : Bool) (s : State) : State :=
  if s.resetHeld then s
  else
    let r := receive s.li.straps s.li.rx value good
    (s.setRx r.1).count r.2

/-! ### The fate of a frame (10 R164, R165) -/

/-- A good frame: counted, the silence timer restarted, and delivered to the Request Handler, all in one
event (10 R165, 11 R175). -/
def deliverFrame (f : Frame) (s : State) : State :=
  let s1 := restartTimer (s.count fun c => { c with good := saturate (c.good + 1) })
  if f.address == broadcastAddress then takeBroadcast f s1 else takeAddressed f s1

/-- A frame that ends in RECEIVING: an overrun while a request is in hand, else examined for its length
and its check, and delivered where both pass (10 R164, R165). -/
def endFrame (buf : List Byte) (s : State) : State :=
  if s.rh.inHand.isSome then s.count fun c => { c with overrun := saturate (c.overrun + 1) }
  else if !frameLengthOk buf then s.count fun c => { c with malformed := saturate (c.malformed + 1) }
  else if !frameCheckOk buf then s.count fun c => { c with check := saturate (c.check + 1) }
  else deliverFrame (frameOf buf) s

/-- GAP: a frame being received ends, and the receiver is READY whatever it was (10 R159, R161, R163).
A node held in reset finds none, nor does the receiver while the transmitter sends. -/
def gap (s : State) : State :=
  if s.resetHeld then s
  else match s.li.rx with
    | .off => s
    | .receiving buf => endFrame buf (s.setRx .ready)
    | .syncing | .ready | .skipping | .discarding => s.setRx .ready

/-! ### The transmitter (10 §10.4) -/

/-- SENDING_START: the transmitter takes the line. A frame being received is ended as an overrun, one
skipped or discarded is let go, and the receiver is off (10 R167). Nothing where no reply waits. -/
def sendingStart (s : State) : State :=
  match s.li.tx with
  | .turnaround reply =>
    let cut := match s.li.rx with
      | .receiving _ => s.count fun c => { c with overrun := saturate (c.overrun + 1) }
      | _ => s
    (cut.setRx .off).setTx (.sending reply)
  | .idle | .sending _ => s

/-- SENDING_END: the line is released, the request in hand becomes NONE, the receiver is SYNCING; a
pending SOFT reset takes effect at once (10 R168, 09 R149, 11 R179). Nothing where none is sent. -/
def sendingEnd (s : State) : State :=
  match s.li.tx with
  | .sending _ =>
    let s1 := ((s.setTx .idle).setRx .syncing).hold none
    if s1.nc.restartPending then softReset s1 else s1
  | .idle | .turnaround _ => s

/-! ### A host's frame (log 1) -/

/-- The characters of a run received one after another, all of them good. -/
def receiveAll (cs : List Byte) (s : State) : State :=
  cs.foldl (fun s c => characterComplete c true s) s

/-- A request frame of kind `k` sent whole by a well-behaved host: the line idle for a gap, the frame's
characters back to back, and the line idle for a gap again (10 R159, log 1). -/
def hostSends (k : Kind) (r : Req) (s : State) : State :=
  gap (receiveAll (requestFrame k r).chars (gap s))

/-- The meaning of GAP (10 R159). -/
def execGap (s : State) : Host.Outcome State Fault Refusal := .next (gap s)

/-- The meaning of SENDING_START (10 R167). -/
def execSendingStart (s : State) : Host.Outcome State Fault Refusal := .next (sendingStart s)

/-- The meaning of SENDING_END (10 R168). -/
def execSendingEnd (s : State) : Host.Outcome State Fault Refusal := .next (sendingEnd s)

/-- The meaning of CHARACTER_COMPLETE (10 R158). -/
def execCharacterComplete (value : Byte) (good : Bool) (s : State) :
    Host.Outcome State Fault Refusal :=
  .next (characterComplete value good s)

end Sys2Proof.Machine
end

