-- ==== Sys2Proof/Machine/Commands.lean ====
section
/-! DEFINITION. The meanings of the 36 request commands: each is its request frame sent whole by a
well-behaved host (log 1). What the node does with the frame is the line's (10), the Request Handler's
(09) and its owner's; Machine/Requests.lean names the owner of each kind. -/

namespace Sys2Proof.Machine

/-- The meaning of IDENTIFY (R155): its frame on the line; the owner's part is `ownIdentify`. -/
def execIdentify (r : Req) (s : State) : Host.Outcome State Fault Refusal := .next (hostSends .identify r s)

/-- The meaning of ECHO (R156): its frame on the line; the owner's part is `ownEcho`. -/
def execEcho (r : Req) (s : State) : Host.Outcome State Fault Refusal := .next (hostSends .echo r s)

/-- The meaning of STATUS (R180): its frame on the line; the owner's part is `ownStatus`. -/
def execStatus (r : Req) (s : State) : Host.Outcome State Fault Refusal := .next (hostSends .status r s)

/-- The meaning of GO (R172): its frame on the line; the owner's part is `ownGo`. -/
def execGo (r : Req) (s : State) : Host.Outcome State Fault Refusal := .next (hostSends .go r s)

/-- The meaning of HALT (R173): its frame on the line; the owner's part is `ownHalt`. -/
def execHalt (r : Req) (s : State) : Host.Outcome State Fault Refusal := .next (hostSends .halt r s)

/-- The meaning of RESTART (R178): its frame on the line; the owner's part is `ownRestart`. -/
def execRestart (r : Req) (s : State) : Host.Outcome State Fault Refusal := .next (hostSends .restart r s)

/-- The meaning of SET_SILENCE (R177): its frame on the line; the owner's part is `ownSetSilence`. -/
def execSetSilence (r : Req) (s : State) : Host.Outcome State Fault Refusal := .next (hostSends .setSilence r s)

/-- The meaning of MARK (R105): its frame on the line; the owner's part is `ownMark`. -/
def execMark (r : Req) (s : State) : Host.Outcome State Fault Refusal := .next (hostSends .mark r s)

/-- The meaning of SET_CHANNEL (R49): its frame on the line; the owner's part is `ownSetChannel`. -/
def execSetChannel (r : Req) (s : State) : Host.Outcome State Fault Refusal := .next (hostSends .setChannel r s)

/-- The meaning of CONVERT (R35): its frame on the line; the owner's part is `ownConvert`. -/
def execConvert (r : Req) (s : State) : Host.Outcome State Fault Refusal := .next (hostSends .convert r s)

/-- The meaning of CANCEL_CONVERT (R45): its frame on the line; the owner's part is `ownCancelConvert`. -/
def execCancelConvert (r : Req) (s : State) : Host.Outcome State Fault Refusal := .next (hostSends .cancelConvert r s)

/-- The meaning of WRITE_STEPS (R3): its frame on the line; the owner's part is `ownWriteSteps`. -/
def execWriteSteps (r : Req) (s : State) : Host.Outcome State Fault Refusal := .next (hostSends .writeSteps r s)

/-- The meaning of READ_STEPS (R4): its frame on the line; the owner's part is `ownReadSteps`. -/
def execReadSteps (r : Req) (s : State) : Host.Outcome State Fault Refusal := .next (hostSends .readSteps r s)

/-- The meaning of DEFINE_LIST (R7): its frame on the line; the owner's part is `ownDefineList`. -/
def execDefineList (r : Req) (s : State) : Host.Outcome State Fault Refusal := .next (hostSends .defineList r s)

/-- The meaning of START_LIST (R25): its frame on the line; the owner's part is `ownStartList`. -/
def execStartList (r : Req) (s : State) : Host.Outcome State Fault Refusal := .next (hostSends .startList r s)

/-- The meaning of STOP_LIST (R26): its frame on the line; the owner's part is `ownStopList`. -/
def execStopList (r : Req) (s : State) : Host.Outcome State Fault Refusal := .next (hostSends .stopList r s)

/-- The meaning of LIST_STATUS (R28): its frame on the line; the owner's part is `ownListStatus`. -/
def execListStatus (r : Req) (s : State) : Host.Outcome State Fault Refusal := .next (hostSends .listStatus r s)

/-- The meaning of CLEAR_LIST (R8): its frame on the line; the owner's part is `ownClearList`. -/
def execClearList (r : Req) (s : State) : Host.Outcome State Fault Refusal := .next (hostSends .clearList r s)

/-- The meaning of READ_LATEST (R68): its frame on the line; the owner's part is `ownReadLatest`. -/
def execReadLatest (r : Req) (s : State) : Host.Outcome State Fault Refusal := .next (hostSends .readLatest r s)

/-- The meaning of READ_FIFO (R74): its frame on the line; the owner's part is `ownReadFifo`. -/
def execReadFifo (r : Req) (s : State) : Host.Outcome State Fault Refusal := .next (hostSends .readFifo r s)

/-- The meaning of FIFO_STATUS (R76): its frame on the line; the owner's part is `ownFifoStatus`. -/
def execFifoStatus (r : Req) (s : State) : Host.Outcome State Fault Refusal := .next (hostSends .fifoStatus r s)

/-- The meaning of CLEAR_FIFO (R77): its frame on the line; the owner's part is `ownClearFifo`. -/
def execClearFifo (r : Req) (s : State) : Host.Outcome State Fault Refusal := .next (hostSends .clearFifo r s)

/-- The meaning of SET_FIFO_LEVEL (R78): its frame on the line; the owner's part is `ownSetFifoLevel`. -/
def execSetFifoLevel (r : Req) (s : State) : Host.Outcome State Fault Refusal := .next (hostSends .setFifoLevel r s)

/-- The meaning of SET_WATCH (R91): its frame on the line; the owner's part is `ownSetWatch`. -/
def execSetWatch (r : Req) (s : State) : Host.Outcome State Fault Refusal := .next (hostSends .setWatch r s)

/-- The meaning of CLEAR_WATCH (R92): its frame on the line; the owner's part is `ownClearWatch`. -/
def execClearWatch (r : Req) (s : State) : Host.Outcome State Fault Refusal := .next (hostSends .clearWatch r s)

/-- The meaning of WATCH_STATUS (R94): its frame on the line; the owner's part is `ownWatchStatus`. -/
def execWatchStatus (r : Req) (s : State) : Host.Outcome State Fault Refusal := .next (hostSends .watchStatus r s)

/-- The meaning of READ_STAMP (R96): its frame on the line; the owner's part is `ownReadStamp`. -/
def execReadStamp (r : Req) (s : State) : Host.Outcome State Fault Refusal := .next (hostSends .readStamp r s)

/-- The meaning of SET_CAPTURE (R99): its frame on the line; the owner's part is `ownSetCapture`. -/
def execSetCapture (r : Req) (s : State) : Host.Outcome State Fault Refusal := .next (hostSends .setCapture r s)

/-- The meaning of READ_CAPTURES (R106): its frame on the line; the owner's part is `ownReadCaptures`. -/
def execReadCaptures (r : Req) (s : State) : Host.Outcome State Fault Refusal := .next (hostSends .readCaptures r s)

/-- The meaning of SCHEDULE (R117): its frame on the line; the owner's part is `ownSchedule`. -/
def execSchedule (r : Req) (s : State) : Host.Outcome State Fault Refusal := .next (hostSends .schedule r s)

/-- The meaning of CANCEL_ACTION (R123): its frame on the line; the owner's part is `ownCancelAction`. -/
def execCancelAction (r : Req) (s : State) : Host.Outcome State Fault Refusal := .next (hostSends .cancelAction r s)

/-- The meaning of SCHEDULE_STATUS (R124): its frame on the line; the owner's part is `ownScheduleStatus`. -/
def execScheduleStatus (r : Req) (s : State) : Host.Outcome State Fault Refusal := .next (hostSends .scheduleStatus r s)

/-- The meaning of SET_OUTPUT (R110): its frame on the line; the owner's part is `ownSetOutput`. -/
def execSetOutput (r : Req) (s : State) : Host.Outcome State Fault Refusal := .next (hostSends .setOutput r s)

/-- The meaning of SET_SAFE_LEVELS (R111): its frame on the line; the owner's part is `ownSetSafeLevels`. -/
def execSetSafeLevels (r : Req) (s : State) : Host.Outcome State Fault Refusal := .next (hostSends .setSafeLevels r s)

/-- The meaning of OUTPUT_STATUS (R113): its frame on the line; the owner's part is `ownOutputStatus`. -/
def execOutputStatus (r : Req) (s : State) : Host.Outcome State Fault Refusal := .next (hostSends .outputStatus r s)

/-- The meaning of POLL (R132): its frame on the line; the owner's part is `ownPoll`. -/
def execPoll (r : Req) (s : State) : Host.Outcome State Fault Refusal := .next (hostSends .poll r s)

end Sys2Proof.Machine
end

