-- ==== Sys2Proof/Machine/Dispatch.lean ====
section
/-! DEFINITION. The meaning of every command, one arm for each row of the opcode table. -/

namespace Sys2Proof.Machine

def exec (i : Instr) (s : State) : Host.Outcome State Fault Refusal :=
  match i with
  | .por straps => Sys2Proof.Machine.execPor straps s
  | .pinReset => Sys2Proof.Machine.execPinReset s
  | .pinRelease straps => Sys2Proof.Machine.execPinRelease straps s
  | .calibrationEnd => Sys2Proof.Machine.execCalibrationEnd s
  | .gap => Sys2Proof.Machine.execGap s
  | .sendingStart => Sys2Proof.Machine.execSendingStart s
  | .sendingEnd => Sys2Proof.Machine.execSendingEnd s
  | .identify r => Sys2Proof.Machine.execIdentify r s
  | .echo r => Sys2Proof.Machine.execEcho r s
  | .status r => Sys2Proof.Machine.execStatus r s
  | .go r => Sys2Proof.Machine.execGo r s
  | .halt r => Sys2Proof.Machine.execHalt r s
  | .restart r => Sys2Proof.Machine.execRestart r s
  | .setSilence r => Sys2Proof.Machine.execSetSilence r s
  | .mark r => Sys2Proof.Machine.execMark r s
  | .setChannel r => Sys2Proof.Machine.execSetChannel r s
  | .convert r => Sys2Proof.Machine.execConvert r s
  | .cancelConvert r => Sys2Proof.Machine.execCancelConvert r s
  | .writeSteps r => Sys2Proof.Machine.execWriteSteps r s
  | .readSteps r => Sys2Proof.Machine.execReadSteps r s
  | .defineList r => Sys2Proof.Machine.execDefineList r s
  | .startList r => Sys2Proof.Machine.execStartList r s
  | .stopList r => Sys2Proof.Machine.execStopList r s
  | .listStatus r => Sys2Proof.Machine.execListStatus r s
  | .clearList r => Sys2Proof.Machine.execClearList r s
  | .readLatest r => Sys2Proof.Machine.execReadLatest r s
  | .readFifo r => Sys2Proof.Machine.execReadFifo r s
  | .fifoStatus r => Sys2Proof.Machine.execFifoStatus r s
  | .clearFifo r => Sys2Proof.Machine.execClearFifo r s
  | .setFifoLevel r => Sys2Proof.Machine.execSetFifoLevel r s
  | .setWatch r => Sys2Proof.Machine.execSetWatch r s
  | .clearWatch r => Sys2Proof.Machine.execClearWatch r s
  | .watchStatus r => Sys2Proof.Machine.execWatchStatus r s
  | .readStamp r => Sys2Proof.Machine.execReadStamp r s
  | .setCapture r => Sys2Proof.Machine.execSetCapture r s
  | .readCaptures r => Sys2Proof.Machine.execReadCaptures r s
  | .schedule r => Sys2Proof.Machine.execSchedule r s
  | .cancelAction r => Sys2Proof.Machine.execCancelAction r s
  | .scheduleStatus r => Sys2Proof.Machine.execScheduleStatus r s
  | .setOutput r => Sys2Proof.Machine.execSetOutput r s
  | .setSafeLevels r => Sys2Proof.Machine.execSetSafeLevels r s
  | .outputStatus r => Sys2Proof.Machine.execOutputStatus r s
  | .poll r => Sys2Proof.Machine.execPoll r s
  | .checkEnd charged discharged => Sys2Proof.Machine.execCheckEnd charged discharged s
  | .settleEnd => Sys2Proof.Machine.execSettleEnd s
  | .sampleEnd level => Sys2Proof.Machine.execSampleEnd level s
  | .waitExpiry list => Sys2Proof.Machine.execWaitExpiry list s
  | .awaitTimeout list => Sys2Proof.Machine.execAwaitTimeout list s
  | .restStamp list => Sys2Proof.Machine.execRestStamp list s
  | .capturePinChange input level => Sys2Proof.Machine.execCapturePinChange input level s
  | .debounceEnd input => Sys2Proof.Machine.execDebounceEnd input s
  | .actionFiring => Sys2Proof.Machine.execActionFiring s
  | .silenceExpiry => Sys2Proof.Machine.execSilenceExpiry s
  | .characterComplete value stopAtMark => Sys2Proof.Machine.execCharacterComplete value stopAtMark s

end Sys2Proof.Machine
end

