-- ==== Sys2Proof/Machine/Idle.lean ====
section
/-! DEFINITION. What the node does when no command waits (log 2, 3, 4): the event that is due at the
present stamp, one at a time, or the passing of one microsecond. -/

namespace Sys2Proof.Machine

/-- Whether a stamp is the present one. -/
def State.dueNow (s : State) (d : Option Stamp) : Bool := d == some s.now

/-- The converter's event, when one is due: what the input presents is a free value (log 4). -/
def converterEvent (s : State) : Instr :=
  match s.cv.state with
  | .calibrating | .idle => .calibrationEnd
  | .checking _ => .checkEnd (Config.analogLevel (2 * s.free)) (Config.analogLevel (2 * s.free + 1))
  | .settling _ => .settleEnd
  | .sampling _ => .sampleEnd (Config.analogLevel (2 * s.free))

/-- A list's event, when one is due: its rest stamp, or the expiry of its AWAIT or WAIT step. -/
def listEvent (s : State) (k : Fin 8) : Instr :=
  match (s.list k).state, currentStep s k with
  | .resting, _ => .restStamp k
  | _, some (.await _ _) => .awaitTimeout k
  | _, _ => .waitExpiry k

/-- The events due at the present stamp. -/
def eventsNow (s : State) : List Instr :=
  (if s.dueNow s.cv.due then [converterEvent s] else [])
    ++ (if s.dueNow s.su.due then [.actionFiring] else [])
    ++ (if s.dueNow s.nc.timer then [.silenceExpiry] else [])
    ++ (allLists.filter fun k => s.dueNow (s.list k).due).map (listEvent s)
    ++ (allFour.filter fun k => s.dueNow (s.input k).due).map .debounceEnd

/-- The event the node takes of those due now: the only one, or the one a free value picks (log 3);
none where nothing is due or the node is held in reset. -/
def nextEvent (s : State) : Option Instr :=
  if s.resetHeld then none
  else match eventsNow s with
    | [] => none
    | [i] => some i
    | i :: rest => some ((i :: rest).getD (Config.dueOrder s.free % (rest.length + 1)) i)

/-- One microsecond passes: the stamp counts on and wraps (06 R95). A node held in reset keeps 0. -/
def tick (s : State) : State :=
  if s.resetHeld then s else s.advance (s.now + 1)

/-- The free counter moved on, so that the next free values are fresh. -/
def State.useFree (s : State) : State := { s with free := s.free + 1 }

/-- The queue of waiting commands set; nothing else. -/
def State.withPending (s : State) (q : List Instr) : State := { s with pending := q }

/-- A step with no command waiting: the event due now, or one microsecond (log 2, 3). -/
def idleStep (s : State) : Host.Outcome State Fault Refusal :=
  match nextEvent s with
  | some i => exec i s.useFree
  | none => .next (tick s)

end Sys2Proof.Machine
end

