-- ==== Sys2Proof/Machine/Step.lean ====
section
/-! DEFINITION. One step: the command at the front of the queue, or, with none waiting, what the node
does by itself (log 2). -/

namespace Sys2Proof.Machine

/-- One step: the command at the front of the queue runs with the queue's rest; with an empty queue the
node runs by itself. -/
def step (s : State) : Host.Outcome State Fault Refusal :=
  match s.pending with
  | i :: rest => exec i (s.withPending rest)
  | [] => idleStep s

/-- The state with the command a table word spells put at the front of its queue; unchanged where the
word spells none, as no word does (Decode). -/
def State.withFetchWord (s : State) (nbits w : Nat) : State :=
  match decodeTableWord nbits w with
  | some i => s.withPending (i :: s.pending)
  | none => s

end Sys2Proof.Machine
end

