-- ==== Sys2Proof/Safety.lean ====
section
/-! DEFINITION. The terms the claims use. A request and its answer: which requests a node hears, the
state in which the Request Handler takes one, and the states that carrying it out or refusing it leave,
each written out field by field from the rules and not by the model's own operations. And what counts
as a good state: the bounds of the stores, what holds outside RUN, how the converter and the arbiter
agree, how the lists and the watches stand, and the shape of the notice queue, each as a rule of the
spec says it always holds. -/

namespace Sys2Proof.Machine

/-! ### A request and its answer -/

/-- The receiver is not in the middle of a frame and the transmitter does not have the line, so that a
gap makes the receiver READY (10 R161, R163). -/
def Receiver.betweenFrames : Receiver → Bool
  | .syncing | .ready | .skipping | .discarding => true
  | .receiving _ | .off => false

/-- The reply cache answers a frame: it is not EMPTY and both the sequence number and the CRC are the
frame's (09 R150). -/
def State.cacheAnswers (s : State) (f : Frame) : Bool :=
  match s.rh.cache with
  | some c => c.seq == f.control.setWidth 4 && c.crc == f.crc
  | none => false

/-- The strapped address is 1 to 30 and equals the frame's address character (10 R157, R162). -/
def addressedTo (t : Straps) (address : Byte) : Bool :=
  1 ≤ t.address.toNat && t.address.toNat ≤ 30 && address.toNat == t.address.toNat

/-- Nothing keeps a node from taking the frame of a request: it is not held in reset (11 R170), no
request is in hand (10 R164), its receiver is between frames, and the body fits a frame (10 R159). -/
structure State.Free (s : State) (r : Req) : Prop where
  running : s.resetHeld = false
  noneInHand : s.rh.inHand = none
  between : s.li.rx.betweenFrames = true
  body : r.body.length ≤ 240

/-- A request frame that the node takes and does not answer from its cache: it is addressed to this
node and the cache does not match (09 R143, R150), or it is a broadcast of an eligible kind
(09 R153). -/
structure Hears (k : Kind) (r : Req) (s : State) : Prop where
  free : s.Free r
  form : (addressedTo s.li.straps r.address = true ∧ s.cacheAnswers (requestFrame k r) = false) ∨
    (r.address = 31 ∧ broadcastEligible k = true)

/-- The node as a good frame is delivered: the receiver READY (10 R162), good frames one more, stopping
at 65,535 (10 R165, R169), and the silence timer restarted where the node is in RUN with a silence time
(11 R175). -/
def State.heard (s : State) : State :=
  { s with
    li := { s.li with
      rx := .ready
      counters := { s.li.counters with good := min (s.li.counters.good + 1) 65535 } }
    nc := { s.nc with
      timer := if s.nc.state = .run ∧ s.nc.silence ≠ 0 then
        some (s.tcu.stamp + BitVec.ofNat 32 (1000 * s.nc.silence)) else s.nc.timer } }

/-- The node as its Request Handler passes a request to the owner: delivered, in hand, EXECUTING
(09 R142, R143). -/
def State.taken (k : Kind) (r : Req) (s : State) : State :=
  { s.heard with rh := { s.rh with inHand := some (requestFrame k r, .executing) } }

/-- The reply frame of a request: the node's address plus 128, the sequence number with every other bit
0, the kind given, the body, and its CRC (09 R147, R148, 10 R160). -/
def answerFrame (r : Req) (s : State) (kind : Byte) (body : List Byte) : Frame :=
  sealFrame (BitVec.ofNat 8 (s.li.straps.address.toNat + 128)) (r.control &&& 0x0F) kind body

/-- An addressed request answered: the reply cached under the frame's sequence number and CRC
(09 R151), the request REPLYING (09 R142), and the transmitter in TURNAROUND with the reply
(10 R167). -/
def answered (k : Kind) (r : Req) (reply : Frame) (after : State) : State :=
  { after with
    rh := { inHand := some (requestFrame k r, .replying)
            cache := some { seq := r.control.setWidth 4, crc := (requestFrame k r).crc, reply := reply } }
    li := { after.li with tx := .turnaround reply } }

/-- A request carried out, with the owner's reply body and the state the owner left: answered where it
was addressed (09 R148); no longer in hand and nothing else where it was a broadcast (09 R154). -/
def accepts (k : Kind) (r : Req) (s : State) (body : List Byte) (after : State) : State :=
  if r.address = 31 then { after with rh := { after.rh with inHand := none } }
  else answered k r (answerFrame r s (kindCode k + 128) body) after

/-- A request refused, changing nothing in any owner (09 R147): answered with kind 255 and the refused
kind, the reason and the detail where it was addressed; no sign of it where it was a broadcast
(09 R154). -/
def refuses (k : Kind) (r : Req) (s : State) (reason : Reason) (detail : Nat) : State :=
  if r.address = 31 then s.heard
  else answered k r
    (answerFrame r s 255 [kindCode k, BitVec.ofNat 8 reason.code, BitVec.ofNat 8 detail]) (s.taken k r)

/-- What a verdict of the owner leaves (09 R143 stages 3 to 5). -/
def concludes (k : Kind) (r : Req) (s : State) : Verdict → State
  | .refuse reason detail => refuses k r s reason detail
  | .accept body after => accepts k r s body after

/-! ### What is due -/

/-- An event that the node takes by itself is due at the present stamp: calibration 1,500 µs from the
reset (03 R51); the end of a phase of a conversion, whatever the input then presents (03 R53, R54, R55);
the expiry of a WAIT step or of an AWAIT step's timeout (01 R14, R16); a rest stamp (01 R18, R19); the
end of a debounce (06 R101); the due stamp of the front entry of the schedule (07 R119); the expiry of
the silence timer (11 R176). -/
inductive State.EventDue (s : State) : Instr → Prop
  | calibration : s.cv.state = .calibrating → s.tcu.stamp = 1500 → s.EventDue .calibrationEnd
  | check (c : Context) (charged discharged : BitVec 12) :
      s.cv.state = .checking c → c.phaseEnd = s.tcu.stamp → s.EventDue (.checkEnd charged discharged)
  | settling (c : Context) : s.cv.state = .settling c → c.phaseEnd = s.tcu.stamp → s.EventDue .settleEnd
  | sample (c : Context) (level : BitVec 12) :
      s.cv.state = .sampling c → c.phaseEnd = s.tcu.stamp → s.EventDue (.sampleEnd level)
  | wait (k : Fin 8) (n : Nat) : (s.list k).state = .active → currentStep s k = some (.wait n) →
      (s.list k).expiry = some s.tcu.stamp → s.EventDue (.waitExpiry k)
  | await (k : Fin 8) (i : Fin 4) (t : Option Nat) : (s.list k).state = .active →
      currentStep s k = some (.await i t) → (s.list k).expiry = some s.tcu.stamp →
      s.EventDue (.awaitTimeout k)
  | rest (k : Fin 8) (d : ListDef) : (s.list k).state = .resting → (s.list k).defn = some d →
      (s.list k).passStart + BitVec.ofNat 32 d.passPeriod = s.tcu.stamp → s.EventDue (.restStamp k)
  | debounce (k : Fin 4) (initial : Stamp) (d : Direction) : (s.input k).context = some (initial, d) →
      initial + BitVec.ofNat 32 (s.input k).debounce = s.tcu.stamp → s.EventDue (.debounceEnd k)
  | action (e : ScheduleEntry) (later : List ScheduleEntry) : s.su.table = e :: later →
      e.due = s.tcu.stamp → s.EventDue .actionFiring
  | silence : s.nc.timer = some s.tcu.stamp → s.EventDue .silenceExpiry

/-! ### Good states -/

/-- No store holds more than its capacity: the result FIFO (04 R69), the priority queue (02 R33), the
capture log (06 R103), the schedule table (07 R125). The notice queue's bound is part of its shape. -/
structure State.Bounded (s : State) : Prop where
  fifo : s.rs.fifo.length ≤ 384
  tickets : s.ca.queue.length ≤ 8
  log : s.tcu.log.length ≤ 32
  schedule : s.su.table.length ≤ 24

/-- The notices' sequence numbers from oldest to newest are consecutive in the cycle 1 to 65,535, and
the last is followed by the next notice sequence (08 R129). -/
def consecutive : List Notice → (next : Nat) → Bool
  | [], _ => true
  | [n], next => nextNoticeSeq n.seq == next
  | n :: m :: rest, next => nextNoticeSeq n.seq == m.seq && consecutive (m :: rest) next

/-- The shape of the notice queue (08 R129): at most 32 notices, at most 31 without a NOTICES_LOST, at
most one NOTICES_LOST, consecutive sequence numbers, and the delivered notices an unbroken run from the
oldest. And its lost-notice record (08 R131): there exactly while a NOTICES_LOST is queued, with the
lost count and the first-lost stamp of that notice's body, and a carried count no greater. -/
structure NoticeQueue.Shaped (q : NoticeQueue) : Prop where
  bounded : q.notices.length ≤ 32
  lastPlace : q.hasLost = false → q.notices.length ≤ 31
  oneLost : q.notices.countP Notice.isLost ≤ 1
  numbers : 1 ≤ q.nextSeq ∧ q.nextSeq ≤ 65535
  sequence : consecutive q.notices q.nextSeq = true
  deliveredFirst : (q.notices.dropWhile Notice.delivered).all (fun n => !n.delivered) = true
  record : q.lost.isSome = q.hasLost
  agrees : ∀ n ∈ q.notices, ∀ c f, n.body = .noticesLost c f →
    ∃ r, q.lost = some r ∧ r.lost = c ∧ r.first = f ∧ r.carried ≤ c ∧ 1 ≤ c ∧ c ≤ 65535

/-- The converter is in a working state exactly while the grant record is not NONE (02 R31). -/
def State.GrantMatchesConverter (s : State) : Prop :=
  s.ca.grant.isSome = s.cv.state.context.isSome

/-- The ticket numbers of the waiting tickets and of the ticket in flight are all different, and no more
than 8 tickets wait (02 R33). -/
structure State.TicketsDiffer (s : State) : Prop where
  waiting : s.ca.queue.length ≤ 8
  differ : (s.ca.inFlightTicket.toList ++ s.ca.queue.map Ticket.number).Nodup

/-- What always holds of a list's own record: no definition exactly while UNDEFINED, and steps that lie
in the step memory (01 R5, R7); a current step index within the list, and 0 while it is not ACTIVE
(01 R7, R28); an expiry stamp and an in-flight conversion only while ACTIVE (01 R6); passes that never
exceed the pass count, and have not reached it while the run goes on (01 R17); and the model's own mark
clear between commands (log 10). -/
structure ListRecord.Sound (l : ListRecord) : Prop where
  defined : l.defn = none ↔ l.state = .undefined
  covered : ∀ d, l.defn = some d → 1 ≤ d.stepCount ∧ d.firstStep + d.stepCount ≤ 128
  index : ∀ d, l.defn = some d → l.stepIndex < d.stepCount
  still : l.state ≠ .active → l.stepIndex = 0 ∧ l.expiry = none ∧ l.inFlight = false
  passes : ∀ d, l.defn = some d → d.passCount ≠ 0 → l.passes ≤ d.passCount
  unfinished : ∀ d, l.defn = some d → d.passCount ≠ 0 → l.state = .active ∨ l.state = .resting →
    l.passes < d.passCount
  unmarked : l.edgeWaiting = false

/-- How the eight lists stand: each record is sound; a list's in-flight flag is set exactly while the
grant record names it, and then it stands at a CONVERT step (02 R31, 01 R6); and a list that has an
expiry stamp stands at a WAIT or an AWAIT step (01 R6). -/
structure State.ListsSound (s : State) : Prop where
  sound : ∀ k, (s.list k).Sound
  inFlight : ∀ k, (s.list k).inFlight = true ↔ s.ca.ownedByList k = true
  converting : ∀ k, (s.list k).inFlight = true → ∃ c g, currentStep s k = some (.convert c g)
  expiring : ∀ k, (s.list k).expiry.isSome = true →
    (∃ n, currentStep s k = some (.wait n)) ∨ ∃ i n, currentStep s k = some (.await i (some n))

/-- Outside RUN no list is ARMED, ACTIVE or RESTING (01 R29), the schedule table is empty (07 R125) and
the silence timer is stopped (11 R175). -/
def State.QuietOutsideRun (s : State) : Prop :=
  s.nc.state ≠ .run →
    (∀ k, (s.list k).state.running = false) ∧ s.su.table = [] ∧ s.nc.timer = none

/-- Whether the converter is IDLE and unowned while a claim stands, which no event leaves behind
(02 R36). -/
def State.claimUnserved (s : State) : Bool :=
  s.cv.state == .idle && s.ca.grant.isNone && (!s.ca.queue.isEmpty || allLists.any (listClaims s))

/-- The schedule table is in the order in which its entries fire, nearest first (07 R115); every due
stamp lies within 2^31 - 1 µs ahead; every period is at most 1,000,000,000 µs; no two entries share a
handle (07 R114); and there are at most 24 (07 R125). -/
structure State.ScheduleInOrder (s : State) : Prop where
  order : s.su.table.Pairwise fun e f => distance s.now e.due ≤ distance s.now f.due
  ahead : ∀ e ∈ s.su.table, distance s.now e.due ≤ 2147483647
  periods : ∀ e ∈ s.su.table, e.period ≤ 1000000000
  handles : (s.su.table.map ScheduleEntry.handle).Nodup
  count : s.su.table.length ≤ 24

/-- The next ticket number lies from 1 to 127 (02 R30), and the next handle from 1 to 255 (07 R114). -/
structure State.NumbersInRange (s : State) : Prop where
  ticket : 1 ≤ s.ca.nextTicket ∧ s.ca.nextTicket ≤ 127
  handle : 1 ≤ s.su.nextHandle ∧ s.su.nextHandle ≤ 255

/-- What always holds of a defined watch: its definition keeps the ranges and relations of R79; a
pending zone differs from the zone; the pending count is 0 exactly while there is no pending zone, and
stays below the confirm count; and an UNKNOWN zone has no zone sequence (05 R79, R80). -/
structure WatchEntry.Sound (e : WatchEntry) : Prop where
  limits : e.defn.low < e.defn.high ∧ e.defn.high ≤ 4095
  hysteresis : e.defn.hysteresis ≤ (e.defn.high - e.defn.low) / 2
  confirm : 1 ≤ e.defn.confirm ∧ e.defn.confirm ≤ 15
  differs : ∀ z, e.pending = some z → e.zone ≠ some z
  counting : e.count = 0 ↔ e.pending = none
  unconfirmed : e.count < e.defn.confirm
  unnumbered : e.zone = none → e.zoneSeq = none

/-- Every defined watch is sound (05 R79, R80). -/
def State.WatchesSound (s : State) : Prop := ∀ w e, s.watch w = some e → e.Sound

/-- While the node is in SAFE every output line is at its safe level (06 R112). -/
def State.LinesSafe (s : State) : Prop :=
  s.nc.state = .safe → ∀ k, (s.line k).level = (s.line k).safe

end Sys2Proof.Machine
end

