-- ==== Sys2Proof/WellFormed.lean ====
section
/-! DEFINITION. Which commands a host or a line can make: a request's address is one the formats chapter
gives a request, and its body fits a frame (12 §12.2, 10 R159). -/

namespace Sys2Proof

/-- The address of a request frame is 1 to 30 for a node, or 31 for a broadcast (12 §12.2). -/
def Req.addressOk (r : Req) : Bool := 1 ≤ r.address.toNat && r.address.toNat ≤ 31

/-- A body has at most 240 characters (10 R159). -/
def Req.bodyOk (r : Req) : Bool := r.body.length ≤ Config.maxBody

/-- Both checks of a request. -/
def Req.wellFormed (r : Req) : Bool := r.addressOk && r.bodyOk

/-- The request a command carries, where it is one of the 36 request rows, with its kind. -/
def Instr.request : Instr → Option (Kind × Req)
  | .por _ => none
  | .pinReset => none
  | .pinRelease _ => none
  | .calibrationEnd => none
  | .gap => none
  | .sendingStart => none
  | .sendingEnd => none
  | .identify r => some (.identify, r)
  | .echo r => some (.echo, r)
  | .status r => some (.status, r)
  | .go r => some (.go, r)
  | .halt r => some (.halt, r)
  | .restart r => some (.restart, r)
  | .setSilence r => some (.setSilence, r)
  | .mark r => some (.mark, r)
  | .setChannel r => some (.setChannel, r)
  | .convert r => some (.convert, r)
  | .cancelConvert r => some (.cancelConvert, r)
  | .writeSteps r => some (.writeSteps, r)
  | .readSteps r => some (.readSteps, r)
  | .defineList r => some (.defineList, r)
  | .startList r => some (.startList, r)
  | .stopList r => some (.stopList, r)
  | .listStatus r => some (.listStatus, r)
  | .clearList r => some (.clearList, r)
  | .readLatest r => some (.readLatest, r)
  | .readFifo r => some (.readFifo, r)
  | .fifoStatus r => some (.fifoStatus, r)
  | .clearFifo r => some (.clearFifo, r)
  | .setFifoLevel r => some (.setFifoLevel, r)
  | .setWatch r => some (.setWatch, r)
  | .clearWatch r => some (.clearWatch, r)
  | .watchStatus r => some (.watchStatus, r)
  | .readStamp r => some (.readStamp, r)
  | .setCapture r => some (.setCapture, r)
  | .readCaptures r => some (.readCaptures, r)
  | .schedule r => some (.schedule, r)
  | .cancelAction r => some (.cancelAction, r)
  | .scheduleStatus r => some (.scheduleStatus, r)
  | .setOutput r => some (.setOutput, r)
  | .setSafeLevels r => some (.setSafeLevels, r)
  | .outputStatus r => some (.outputStatus, r)
  | .poll r => some (.poll, r)
  | .checkEnd _ _ => none
  | .settleEnd => none
  | .sampleEnd _ => none
  | .waitExpiry _ => none
  | .awaitTimeout _ => none
  | .restStamp _ => none
  | .capturePinChange _ _ => none
  | .debounceEnd _ => none
  | .actionFiring => none
  | .silenceExpiry => none
  | .characterComplete _ _ => none

/-- A command is well formed when the request it carries is; an event's operands are in range by
their types. -/
def Instr.wellFormed (i : Instr) : Bool :=
  match i.request with
  | some (_, r) => r.wellFormed
  | none => true

end Sys2Proof
end

