-- ==== Sys2Proof/Certificates/Slice0/Obligations.lean ====
section
/-! DEFINITION. The statements for the provers. They use the terms of Safety.lean, the layouts of
chapter 12 (Machine/Operands.lean) and the names of the operations; what an operation does has a
statement of its own. In each, `u` is the node as the owner takes the request. -/

open Sys2Proof Sys2Proof.Machine

/-! ### The machine, resets -/

/-- A step with a command waiting runs the command at the front with the rest of the queue (00 §4.0
"Events": events are taken one at a time). With none waiting, one of the events due at the present stamp
is taken, or, where none is due, one microsecond passes and the stamp wraps at 2^32 (R95); a node held in
reset stands still. What a step with an empty queue does, and which of several events due it takes, is
the model's choice (log 2, 3); what the input presents to a conversion and the free counter are the
model's own (log 4). -/
def Obligations.StepRunsFrontCommand : Prop :=
  (∀ (c : Instr) (rest : List Instr) (s : State),
    step { s with pending := c :: rest } = exec c { s with pending := rest }) ∧
  ∀ s : State, s.pending = [] →
    (s.resetHeld = true → step s = .next s) ∧
    (s.resetHeld = false → s.ListsSound → (∀ i, ¬ s.EventDue i) →
      step s = .next { s with tcu := { s.tcu with stamp := s.tcu.stamp + 1 } }) ∧
    (s.resetHeld = false → s.ListsSound → (∃ i, s.EventDue i) →
      ∃ i, s.EventDue i ∧ step s = exec i { s with free := s.free + 1 })

/-- What a POR leaves on a node whose reset pin is not driven, for all that the host can see: each block
at the values its chapter gives for POR, with cause POWER (R2, R6, R30, R48, R51, R64, R80, R95, R98,
R103, R108, R114, R128, R142, R152, R157, R161, R168, R169, R170), whatever the state before. The free
counter and the queue are the model's own fields (log 4). -/
def Obligations.PowerOnReset : Prop :=
  ∀ (straps : Straps) (s : State), s.resetHeld = false →
    exec (.por straps) s = .next
      { se := { steps := Vector.replicate 128
                  (.convert 0 { settle := none, averaging := none, mode := none, check := none })
                lists := Vector.replicate 8 (.fresh none) }
        ca := { queue := [], pointers := Vector.replicate 4 7, grant := none, nextTicket := 1 }
        cv := { state := .calibrating
                settings := Vector.replicate 16
                  { settle := 10, averaging := .x1, mode := .standard, check := false } }
        rs := { nextSeq := 1, latest := Vector.replicate 16 none, fifo := [], dropped := 0, level := 0,
                levelArmed := true, fullArmed := true }
        wu := { watches := Vector.replicate 12 none }
        tcu := { stamp := 0
                 inputs := Vector.map (fun pin => { edge := .off, debounce := 0, notify := false,
                                                    settled := pin, context := none }) s.tcu.pins
                 pins := s.tcu.pins, log := [], dropped := 0, overflowArmed := true }
        ou := { lines := Vector.replicate 4 { level := .low, safe := .low, source := .reset, stamp := 0 } }
        su := { table := [], nextHandle := 1 }
        nq := { notices := [{ seq := 1, stamp := 0, body := .started .power straps, delivered := false }]
                nextSeq := 2, lost := none }
        rh := { inHand := none, cache := none }
        li := { straps := straps, rx := .syncing, tx := .idle
                counters := { good := 0, check := 0, framing := 0, malformed := 0, overrun := 0,
                              ignored := 0 } }
        nc := { state := .standby, cause := .power, silence := 0, timer := none, restartPending := false }
        resetHeld := false, free := s.free, pending := s.pending }

/-- PIN_RESET holds the node, with its sending stopped and its cache EMPTY (R149, R152, R168, R170).
PIN_RELEASE ends the reset of any held node as a POR ends, with the cause that the node holds, the straps
as they are then read and the settled levels those of the capture pins as they then are, whatever they
were when the pin was driven (R98, R157, R170); after a PIN_RESET that cause is PIN. That a POR while the
pin is driven ends with the pin and has cause POWER, that a second PIN_RESET while the pin is driven
changes nothing, and that a PIN_RELEASE on a pin not driven changes nothing, is the model's reading (log
12). -/
def Obligations.PinReset : Prop :=
  (∀ s : State, s.resetHeld = false →
    ∃ h : State, exec .pinReset s = .next h ∧ h.resetHeld = true ∧ h.li.tx = .idle ∧
      h.rh = { inHand := none, cache := none } ∧ h.nc.state = .standby ∧ h.nc.cause = .pin ∧
      h.nq.notices = [] ∧ h.tcu.pins = s.tcu.pins ∧ h.free = s.free ∧ h.pending = s.pending ∧
      ∀ straps, ∃ p, exec (.por straps) s = .next p ∧
        exec (.pinRelease straps) h = .next { p with
          nc := { p.nc with cause := .pin }
          nq := { p.nq with
            notices := [{ seq := 1, stamp := 0, body := .started .pin straps, delivered := false }] } }) ∧
  (∀ (straps : Straps) (s : State), s.resetHeld = true →
    ∃ p, exec (.por straps) { s with resetHeld := false } = .next p ∧
      exec (.pinRelease straps) s = .next { p with
        nc := { p.nc with cause := s.nc.cause }
        nq := { p.nq with notices :=
          [{ seq := 1, stamp := 0, body := .started s.nc.cause straps, delivered := false }] } }) ∧
  (∀ s : State, s.resetHeld = true → exec .pinReset s = .next s) ∧
  (∀ (straps straps' : Straps) (s : State), s.resetHeld = true →
    ∃ h p, exec (.por straps) s = .next h ∧ h.resetHeld = true ∧
      exec (.por straps') { s with resetHeld := false } = .next p ∧
      exec (.pinRelease straps') h = .next p) ∧
  ∀ (straps : Straps) (s : State), s.resetHeld = false → exec (.pinRelease straps) s = .next s

/-- While the reset pin is driven the node takes nothing: no character, no gap, no request, no event in
time (R170). That a capture pin that changes meanwhile is noted in the pin's level and in nothing else,
for the settled levels at the end, is the model's reading (log 6), and so is that the stamp stands still
(log 2). -/
def Obligations.HeldNodeTakesNothing : Prop :=
  ∀ s : State, s.resetHeld = true →
    (∀ i, i.request.isSome = true → exec i s = .next s) ∧
    (∀ value good, exec (.characterComplete value good) s = .next s) ∧
    exec .gap s = .next s ∧
    (∀ i, i ∈ [Instr.calibrationEnd, .settleEnd, .actionFiring, .silenceExpiry] → exec i s = .next s) ∧
    (∀ charged discharged, exec (.checkEnd charged discharged) s = .next s) ∧
    (∀ level, exec (.sampleEnd level) s = .next s) ∧
    (∀ k, exec (.waitExpiry k) s = .next s ∧ exec (.awaitTimeout k) s = .next s ∧
      exec (.restStamp k) s = .next s) ∧
    (∀ k, exec (.debounceEnd k) s = .next s) ∧
    ∀ k v, exec (.capturePinChange k v) s =
      .next { s with tcu := { s.tcu with pins := s.tcu.pins.set k v } }

/-- The end of a sending without and with a SOFT reset pending (R168, R149, R179), and the state after a
SOFT reset, in every block (R6, R30, R48, R51, R64, R80, R95, R98, R103, R108, R114, R128, R152, R157,
R161, R168, R169, R170, R179). The moment at which a sending ends is the model's (log 1), and that
SENDING_END changes nothing where nothing is being sent is the model's choice (log 13). -/
def Obligations.SendingEnds : Prop :=
  (∀ (s : State) (reply : Frame), s.li.tx = .sending reply → s.nc.restartPending = false →
    exec .sendingEnd s = .next { s with
      li := { s.li with tx := .idle, rx := .syncing }
      rh := { s.rh with inHand := none } }) ∧
  (∀ (s : State) (reply : Frame), s.li.tx = .sending reply → s.nc.restartPending = true →
    exec .sendingEnd s = .next
      { se := { steps := s.se.steps, lists := s.se.lists.map fun l => .fresh l.defn }
        ca := { queue := [], pointers := Vector.replicate 4 7, grant := none, nextTicket := 1 }
        cv := { state := .idle, settings := s.cv.settings }
        rs := { nextSeq := 1, latest := Vector.replicate 16 none, fifo := [], dropped := 0,
                level := s.rs.level, levelArmed := true, fullArmed := true }
        wu := { watches := s.wu.watches.map fun w => w.map fun e =>
                  { defn := e.defn, zone := none, pending := none, count := 0, zoneSeq := none } }
        tcu := { stamp := 0
                 inputs := Vector.zipWith (fun (i : CaptureInput) pin =>
                   { i with settled := pin, context := none }) s.tcu.inputs s.tcu.pins
                 pins := s.tcu.pins, log := [], dropped := 0, overflowArmed := true }
        ou := { lines := s.ou.lines.map fun l =>
                  { level := l.safe, safe := l.safe, source := .reset, stamp := 0 } }
        su := { table := [], nextHandle := 1 }
        nq := { notices := [{ seq := 1, stamp := 0, body := .started .soft s.li.straps, delivered := false }]
                nextSeq := 2, lost := none }
        rh := { inHand := none, cache := s.rh.cache }
        li := { straps := s.li.straps, rx := .syncing, tx := .idle
                counters := { good := 0, check := 0, framing := 0, malformed := 0, overrun := 0,
                              ignored := 0 } }
        nc := { state := .standby, cause := .soft, silence := s.nc.silence, timer := none,
                restartPending := false }
        resetHeld := s.resetHeld, free := s.free, pending := s.pending }) ∧
  ∀ s : State, (∀ reply, s.li.tx ≠ .sending reply) → exec .sendingEnd s = .next s

/-! ### The line -/

/-- What a complete character does in each receiver state, with its counter (R161, R162, R163, R169);
nothing while the transmitter sends (R167). That the receiver is then `off` is the model's (log 14), and
that a framing error with 246 characters in the buffer is counted as a framing error and not as a
malformed frame is the model's choice (log 15). -/
def Obligations.CharacterReceived : Prop :=
  ∀ (s : State) (value : Byte) (good : Bool), s.resetHeld = false →
    exec (.characterComplete value good) s = .next (match s.li.rx with
      | .syncing => s
      | .skipping => s
      | .discarding => s
      | .off => s
      | .ready =>
        if good = false then { s with li := { s.li with
          rx := .discarding
          counters := { s.li.counters with framing := min (s.li.counters.framing + 1) 65535 } } }
        else if addressedTo s.li.straps value = true ∨ value = 31 then
          { s with li := { s.li with rx := .receiving [value] } }
        else { s with li := { s.li with rx := .skipping } }
      | .receiving buffer =>
        if good = false then { s with li := { s.li with
          rx := .discarding
          counters := { s.li.counters with framing := min (s.li.counters.framing + 1) 65535 } } }
        else if buffer.length < 246 then
          { s with li := { s.li with rx := .receiving (buffer ++ [value]) } }
        else { s with li := { s.li with
          rx := .discarding
          counters := { s.li.counters with malformed := min (s.li.counters.malformed + 1) 65535 } } })

/-- A gap outside a frame makes the receiver READY and nothing else (R161, R163). Inside one it ends the
frame, which is discarded and counted when a request is in hand (R164), when its length field disagrees
or it is too short, or when its check fails (R165). A good frame of a kind that a request has does what
that request's own command does from READY, and so is delivered as RequestIsDecidedByOwner,
MatchingFrameIsAnsweredFromCache and RequestsNotExecuted say (R143, R165). A good frame addressed to this
node that matches the cache is answered from it, whatever its kind, one that no request has among them,
and is not executed (R150); one of a kind that no request has and that does not match is refused KIND, as
UnknownKindIsRefused says; a good broadcast of such a kind is counted good, restarts the timer, and is
set aside and counted (R153, R165, R169). While the transmitter sends no gap is found: that the receiver
is then `off` is the model's (log 14). -/
def Obligations.GapEndsFrame : Prop :=
  ∀ s : State, s.resetHeld = false →
    (s.li.rx = .off → exec .gap s = .next s) ∧
    (s.li.rx.betweenFrames = true → exec .gap s = .next { s with li := { s.li with rx := .ready } }) ∧
    ∀ buffer, s.li.rx = .receiving buffer →
      (s.rh.inHand.isSome = true → exec .gap s = .next { s with li := { s.li with
        rx := .ready
        counters := { s.li.counters with overrun := min (s.li.counters.overrun + 1) 65535 } } }) ∧
      (s.rh.inHand = none →
        buffer.length < 6 ∨ (buffer.getD 3 0).toNat ≠ buffer.length - 6 →
        exec .gap s = .next { s with li := { s.li with
          rx := .ready
          counters := { s.li.counters with malformed := min (s.li.counters.malformed + 1) 65535 } } }) ∧
      (s.rh.inHand = none → 6 ≤ buffer.length → (buffer.getD 3 0).toNat = buffer.length - 6 →
        (crcOf (buffer.take (buffer.length - 2))).toNat ≠
          (buffer.getD (buffer.length - 2) 0).toNat * 256 + (buffer.getD (buffer.length - 1) 0).toNat →
        exec .gap s = .next { s with li := { s.li with
          rx := .ready
          counters := { s.li.counters with check := min (s.li.counters.check + 1) 65535 } } }) ∧
      (∀ (i : Instr) (k : Kind) (r : Req), i.request = some (k, r) → r.body.length ≤ 240 →
        addressedTo s.li.straps r.address = true ∨ r.address = 31 →
        buffer = (requestFrame k r).chars →
        exec .gap s = exec i { s with li := { s.li with rx := .ready } }) ∧
      (∀ (r : Req) (code : Byte), s.rh.inHand = none → r.body.length ≤ 240 → r.address = 31 →
        kindOf code = none → buffer = (sealFrame r.address r.control code r.body).chars →
        exec .gap s = .next { s.heard with li := { s.heard.li with
          counters := { s.heard.li.counters with ignored := min (s.li.counters.ignored + 1) 65535 } } }) ∧
      (∀ (r : Req) (code : Byte) (c : CacheEntry), s.rh.inHand = none → r.body.length ≤ 240 →
        addressedTo s.li.straps r.address = true →
        buffer = (sealFrame r.address r.control code r.body).chars → s.rh.cache = some c →
        c.seq = r.control.setWidth 4 → c.crc = (sealFrame r.address r.control code r.body).crc →
        exec .gap s = .next { s.heard with
          rh := { inHand := some (sealFrame r.address r.control code r.body, .replying), cache := some c }
          li := { s.heard.li with
            tx := .turnaround
              (sealFrame c.reply.address (c.reply.control ||| 0x80) c.reply.kind c.reply.body) } })

/-- The transmitter takes the line: a frame being received is an overrun, one skipped or discarded is let
go, and the receiver takes no character until the sending ends (R164, R167). That the receiver is then
`off`, and the moment at which the sending begins, are the model's (log 1, 14), and that SENDING_START
changes nothing where no reply waits is the model's choice (log 13). -/
def Obligations.SendingStarts : Prop :=
  ∀ s : State,
    (∀ reply, s.li.tx = .turnaround reply →
      exec .sendingStart s = .next { s with li := { s.li with
        rx := .off
        tx := .sending reply
        counters := match s.li.rx with
          | .receiving _ => { s.li.counters with overrun := min (s.li.counters.overrun + 1) 65535 }
          | _ => s.li.counters } }) ∧
    ((∀ reply, s.li.tx ≠ .turnaround reply) → exec .sendingStart s = .next s)

/-- The characters of a request frame read back as that frame: its address, control, kind and body, its
length field and its check agree, and its kind code names its kind (R159, R160, 12 §12.2, §12.5). -/
def Obligations.RequestFrameReadsBack : Prop :=
  ∀ (k : Kind) (r : Req), r.wellFormed = true →
    let cs := (requestFrame k r).chars
    cs.length = r.body.length + 6 ∧ 6 ≤ cs.length ∧ cs.length ≤ 246 ∧
    frameLengthOk cs = true ∧ frameCheckOk cs = true ∧
    (frameOf cs).address = r.address ∧ (frameOf cs).control = r.control ∧ (frameOf cs).body = r.body ∧
    frameOf cs = requestFrame k r ∧ kindOf (frameOf cs).kind = some k

/-- A request that the node hears is decided by the checks of R146 in their order, its length and then
its owner's, in the state in which it is delivered, and is answered, or as a broadcast carried out or
left alone (R143, R146, R147, R148, R151, R154, R165, R175). That a request command is its whole frame,
sent with a gap before and after, is the model's choice (log 1). -/
def Obligations.RequestIsDecidedByOwner : Prop :=
  ∀ (i : Instr) (k : Kind) (r : Req) (s : State), i.request = some (k, r) → Hears k r s →
    exec i s = .next (if bodyLengthOk k r.body = true
      then concludes k r s (owner k r.body (s.taken k r)) else refuses k r s .length 0)

/-- A frame whose kind no request has, addressed to this node and not answered from the cache, is refused
KIND with detail 0, whatever its length (R144, R145, R147). -/
def Obligations.UnknownKindIsRefused : Prop :=
  ∀ (r : Req) (code : Byte) (s : State), s.resetHeld = false → s.rh.inHand = none →
    r.body.length ≤ 240 → kindOf code = none →
    addressedTo s.li.straps r.address = true →
    s.cacheAnswers (sealFrame r.address r.control code r.body) = false →
    s.li.rx = .receiving (sealFrame r.address r.control code r.body).chars →
    ∃ t reply, exec .gap s = .next t ∧
      reply = answerFrame r s 255 [code, 2, 0] ∧
      t = { s.heard with
        rh := { inHand := some (sealFrame r.address r.control code r.body, .replying)
                cache := some { seq := r.control.setWidth 4
                                crc := (sealFrame r.address r.control code r.body).crc
                                reply := reply } }
        li := { s.heard.li with tx := .turnaround reply } }

/-- A frame that matches the cache is not executed: the cached reply is sent again with the top bit of
its control character set and its CRC computed afresh, and the cache stays (R150, R151). That a request
command is its whole frame, sent with a gap before and after, is the model's choice (log 1). -/
def Obligations.MatchingFrameIsAnsweredFromCache : Prop :=
  ∀ (i : Instr) (k : Kind) (r : Req) (s : State) (c : CacheEntry), i.request = some (k, r) →
    s.Free r → addressedTo s.li.straps r.address = true → s.rh.cache = some c →
    c.seq = r.control.setWidth 4 → c.crc = (requestFrame k r).crc →
    exec i s = .next { s.heard with
      rh := { inHand := some (requestFrame k r, .replying), cache := some c }
      li := { s.heard.li with
        tx := .turnaround
          (sealFrame c.reply.address (c.reply.control ||| 0x80) c.reply.kind c.reply.body) } }

/-- A broadcast of a kind that is not eligible is set aside and counted, after it was counted good and
restarted the timer (R153, R169). A request for another node, and any addressed request to a listen-only
node, is skipped; a request that comes while one is in hand is discarded as an overrun when it is for
this node; and while the transmitter sends nothing is heard (R162, R163, R164, R166, R167). That a
request command is its whole frame, sent with a gap before and after, is the model's choice (log 1), and
that the receiver is `off` while the transmitter sends is the model's (log 14). -/
def Obligations.RequestsNotExecuted : Prop :=
  ∀ (i : Instr) (k : Kind) (r : Req) (s : State), i.request = some (k, r) → s.resetHeld = false →
    (s.Free r → r.address = 31 → k ∉ [Kind.mark, .go, .halt, .startList, .stopList] →
      exec i s = .next { s.heard with
        li := { s.heard.li with
          counters := { s.heard.li.counters with ignored := min (s.li.counters.ignored + 1) 65535 } } }) ∧
    (s.li.rx.betweenFrames = true → addressedTo s.li.straps r.address = false → r.address ≠ 31 →
      exec i s = .next { s with li := { s.li with rx := .ready } }) ∧
    (s.li.rx.betweenFrames = true → s.rh.inHand.isSome = true → r.body.length ≤ 240 →
      addressedTo s.li.straps r.address = true ∨ r.address = 31 →
      exec i s = .next { s with li := { s.li with
        rx := .ready
        counters := { s.li.counters with overrun := min (s.li.counters.overrun + 1) 65535 } } }) ∧
    (s.li.rx = .off → exec i s = .next s)

/-! ### Requests that read -/

/-- IDENTIFY, ECHO, READ_STAMP, STATUS, FIFO_STATUS and OUTPUT_STATUS: the reply, with the figures as the
request is taken, and nothing else changed (R76, R96, R113, R155, R156, R180, 12 §12.6). The unit number
is a free value, and the revision 2 is the model's reading of R155 (log 7). -/
def Obligations.PlainReads : Prop :=
  ∀ (r : Req) (s : State),
    (Hears .identify r s → r.body = [] → exec (.identify r) s = .next (accepts .identify r s
      ([0x0A, 0x16, 2] ++ u48 Config.unitNumber.toNat
        ++ [BitVec.ofNat 8 s.li.straps.address.toNat, BitVec.ofNat 8 s.li.straps.rate.toNat])
      (s.taken .identify r))) ∧
    (Hears .echo r s → exec (.echo r) s = .next (accepts .echo r s r.body (s.taken .echo r))) ∧
    (Hears .readStamp r s → r.body = [] → exec (.readStamp r) s =
      .next (accepts .readStamp r s (u32 s.tcu.stamp.toNat) (s.taken .readStamp r))) ∧
    (Hears .status r s → r.body = [] →
      let u := s.taken .status r
      let left := match u.nc.timer with
        | none => 0
        | some e => (distance s.tcu.stamp e + 999) / 1000
      exec (.status r) s = .next (accepts .status r s
        (u8 s.nc.state.code ++ u8 s.nc.cause.code ++ u16 s.nc.silence ++ u16 left ++ u8 s.cv.state.code
          ++ u8 s.ca.queue.length ++ u8 (runningMask s.se) ++ u16 s.rs.fifo.length
          ++ u8 s.nq.notices.length ++ u8 s.tcu.log.length ++ u8 s.su.table.length
          ++ u16 u.li.counters.good ++ u16 s.li.counters.check ++ u16 s.li.counters.framing
          ++ u16 s.li.counters.malformed ++ u16 s.li.counters.overrun ++ u16 s.li.counters.ignored) u)) ∧
    (Hears .fifoStatus r s → r.body = [] → exec (.fifoStatus r) s = .next (accepts .fifoStatus r s
      (u16 s.rs.fifo.length ++ u16 s.rs.dropped ++ u16 s.rs.level
        ++ u8 ((if s.rs.levelArmed then 1 else 0) + (if s.rs.fullArmed then 2 else 0))
        ++ u16 s.rs.nextSeq.toNat) (s.taken .fifoStatus r))) ∧
    (Hears .outputStatus r s → r.body = [] → exec (.outputStatus r) s = .next (accepts .outputStatus r s
      (([0, 1, 2, 3] : List (Fin 4)).flatMap fun k =>
        u8 (s.line k).level.code ++ u8 (s.line k).safe.code ++ lineSourceBytes (s.line k).source
          ++ u32 (s.line k).stamp.toNat) (s.taken .outputStatus r)))

/-- READ_STEPS, LIST_STATUS, WATCH_STATUS and SCHEDULE_STATUS: refused FIELD by their first byte or mask
out of range; otherwise the reply, and nothing else changed (R4, R28, R94, R124, 12 §12.6). -/
def Obligations.TableReads : Prop :=
  ∀ (r : Req) (s : State),
    (Hears .readSteps r s → r.body.length = 2 →
      let first := byteAt r.body 0
      let count := byteAt r.body 1
      exec (.readSteps r) s = .next (
        if 127 < first then refuses .readSteps r s .field 1
        else if count = 0 ∨ 59 < count ∨ 128 < first + count then refuses .readSteps r s .field 2
        else accepts .readSteps r s (u8 first ++ u8 count
          ++ ((s.se.steps.toList.drop first).take count).flatMap stepBytes) (s.taken .readSteps r))) ∧
    (Hears .listStatus r s → r.body.length = 1 →
      exec (.listStatus r) s = .next (match below 8 (byteAt r.body 0) with
        | none => refuses .listStatus r s .field 1
        | some k =>
          let l := s.list k
          accepts .listStatus r s (u8 k.val ++ u8 l.state.code
            ++ (match l.defn with
                | none => List.replicate 13 0
                | some d => listDefBytes d)
            ++ u8 l.stepIndex ++ u16 l.passes ++ u32 l.runStart.toNat ++ u32 l.passStart.toNat
            ++ u8 ((if l.stopPending then 1 else 0) + (if l.triggerPending then 2 else 0)
                + (if l.inFlight then 4 else 0) + (if l.expiry.isSome then 8 else 0))
            ++ u32 (l.expiry.getD 0).toNat ++ u16 l.missed ++ u16 l.overruns ++ u16 l.preemptions
            ++ (match l.endRecord with
                | none => [0, 0, 0, 0, 0]
                | some e => u8 e.1.code ++ u32 e.2.toNat)) (s.taken .listStatus r))) ∧
    (Hears .watchStatus r s → r.body.length = 2 →
      exec (.watchStatus r) s = .next (
        if 4095 < wordAt r.body 0 then refuses .watchStatus r s .field 1
        else accepts .watchStatus r s
          (((List.finRange 12).filter fun w => (wordAt r.body 0).testBit w.val).flatMap fun w =>
            match s.watch w with
            | none => u8 w.val ++ [0]
            | some e => u8 w.val ++ [1] ++ watchDefBytes e.defn ++ u8 (zoneCode e.zone)
                ++ u8 (zoneCode e.pending) ++ u8 e.count ++ u16 ((e.zoneSeq.map BitVec.toNat).getD 0))
          (s.taken .watchStatus r))) ∧
    (Hears .scheduleStatus r s → r.body.length = 1 →
      exec (.scheduleStatus r) s = .next (
        if 23 < byteAt r.body 0 then refuses .scheduleStatus r s .field 1
        else accepts .scheduleStatus r s (u8 s.su.table.length ++ u8 (byteAt r.body 0) ++ u8 s.su.nextHandle
          ++ u32 s.tcu.stamp.toNat
          ++ ((s.su.table.drop (byteAt r.body 0)).take 14).flatMap scheduleEntryBytes)
          (s.taken .scheduleStatus r)))

/-! ### The Node Controller -/

/-- GO enters RUN from STANDBY and from SAFE, starting the timer where the silence time is not 0 and
writing no line; in RUN nothing changes (R172). RESTART makes a SOFT reset pending and changes nothing
else (R178). SET_SILENCE refuses 1 to 9 ms and more than 60,000 ms, and otherwise writes the time,
restarting the timer in RUN or stopping it with a time of 0, and reports the time left in whole ms
(R175, R177, R180). -/
def Obligations.GoRestartSetSilence : Prop :=
  ∀ (r : Req) (s : State),
    (Hears .go r s → r.body = [] →
      let u := s.taken .go r
      exec (.go r) s = .next (
        if s.nc.state = .run then accepts .go r s [2, 1] u
        else accepts .go r s [1, if s.nc.state = .safe then 2 else 0] { u with nc := { u.nc with
          state := .run
          timer := if s.nc.silence = 0 then s.nc.timer
            else some (s.tcu.stamp + BitVec.ofNat 32 (1000 * s.nc.silence)) } })) ∧
    (Hears .restart r s → r.body = [] →
      let u := s.taken .restart r
      exec (.restart r) s =
        .next (accepts .restart r s [] { u with nc := { u.nc with restartPending := true } })) ∧
    (Hears .setSilence r s → r.body.length = 2 →
      let u := s.taken .setSilence r
      let time := wordAt r.body 0
      let timer := if time = 0 then none
        else if s.nc.state = .run then some (s.tcu.stamp + BitVec.ofNat 32 (1000 * time)) else s.nc.timer
      exec (.setSilence r) s = .next (
        if (1 ≤ time ∧ time ≤ 9) ∨ 60000 < time then refuses .setSilence r s .field 1
        else accepts .setSilence r s
          (u16 time ++ u16 (match timer with
            | none => 0
            | some e => (distance s.tcu.stamp e + 999) / 1000))
          { u with nc := { u.nc with silence := time, timer := timer } }))

/-- HALT in RUN: the departure of R174 into STANDBY, with the mask of the lists ended and the number of
actions dropped in the reply (R173). The timer is stopped; every list that is ARMED, ACTIVE or RESTING
ends with reason NODE_HALT (R29); the schedule is dropped without moving the next handle (R125); and
every store, watch, line, setting and definition stays as it stood. In SAFE HALT only enters STANDBY; in
STANDBY nothing changes (R173). How the lists end (R29, R20, R26): one after another in increasing order;
an ACTIVE or RESTING one as a run ends, an ARMED one READY with its end record and, where asked for, its
LIST_END; one READY or UNDEFINED is left alone. The arbiter (R44, R47): a ticket's conversion in flight
and the waiting tickets are not touched; a list's conversion in flight is abandoned, and the grant that
follows goes to the oldest waiting ticket or to nobody. When that grant is made is the model's reading
(log 9). -/
def Obligations.HaltLeavesRun : Prop :=
  (∀ (r : Req) (s : State), Hears .halt r s → r.body = [] →
    let u := s.taken .halt r
    (s.nc.state = .standby → exec (.halt r) s = .next (accepts .halt r s [2, 0, 0, 0] u)) ∧
    (s.nc.state = .safe → exec (.halt r) s = .next
      (accepts .halt r s [1, 2, 0, 0] { u with nc := { u.nc with state := .standby } })) ∧
    (s.nc.state = .run →
      let ended := endAllLists .nodeHalt { u with nc := { u.nc with state := .standby, timer := none } }
      let t : State := { ended with su := { table := [], nextHandle := s.su.nextHandle } }
      exec (.halt r) s = .next (accepts .halt r s
        ([1, 1] ++ u8 (runningMask s.se) ++ u8 s.su.table.length) t) ∧
      t.nc = { u.nc with state := .standby, timer := none } ∧
      (∀ k, (s.list k).state.running = true →
        (t.list k).state = .ready ∧ (t.list k).endRecord = some (.nodeHalt, s.tcu.stamp) ∧
        (t.list k).passes = (s.list k).passes ∧ (t.list k).defn = (s.list k).defn) ∧
      (∀ k, (s.list k).state.running = false → t.list k = s.list k) ∧
      t.se.steps = s.se.steps ∧ t.cv.settings = s.cv.settings ∧ t.rs = s.rs ∧ t.wu = s.wu ∧
      t.tcu = s.tcu ∧ t.ou = s.ou ∧ t.li = u.li ∧ t.rh = u.rh ∧ t.resetHeld = s.resetHeld ∧
      t.free = s.free ∧ t.pending = s.pending)) ∧
  ∀ (reason : EndReason) (s : State), reason = .nodeHalt ∨ reason = .nodeSafe →
    let t := endAllLists reason s
    let freed : State := { s with ca := { s.ca with grant := none }, cv := { s.cv with state := .idle } }
    t = makeGrant ((List.finRange 8).foldl (fun t k => endForNode reason k t) s) ∧
    (∀ k, endForNode reason k s = match (s.list k).state with
      | .undefined => s
      | .ready => s
      | .armed =>
        let ready := s.updList k fun l => { l with state := .ready, endRecord := some (reason, s.tcu.stamp) }
        if ((s.list k).defn.map ListDef.notifyEnd).getD false = true then
          { ready with nq := s.nq.raise s.tcu.stamp (.listEnd k reason (s.list k).passes
              (s.list k).missed (s.list k).overruns (s.list k).preemptions) }
        else ready
      | .active => endRun true k reason s
      | .resting => endRun true k reason s) ∧
    (s.ca.inFlightTicket.isSome = true → t.ca = s.ca ∧ t.cv = s.cv) ∧
    (s.cv.state = .calibrating → s.ca.grant = none → t.ca = s.ca ∧ t.cv = s.cv) ∧
    ∀ k, (s.list k).state = .active → (s.list k).inFlight = true → s.ca.ownedByList k = true →
      (s.ca.queue = [] → t.ca = freed.ca ∧ t.cv = freed.cv) ∧
      ∀ x rest, s.ca.queue = x :: rest →
        t.ca = (makeGrant freed).ca ∧ t.cv = (makeGrant freed).cv ∧ t.ca.queue = rest

/-- SILENCE_EXPIRY, where the timer's stamp is the next thing due: the departure of R174 into SAFE. The
timer is stopped, the lists are ended with reason NODE_SAFE as HaltLeavesRun says of every departure
(R29), the schedule is dropped, every line is written with its safe level and source SAFE at this stamp
(R112), and SAFE_ENTERED is raised last, behind the LIST_END notices, with the mask and the count (R174,
R176). Where no timer runs nothing happens. That the command takes place at the due stamp, provided that
nothing else is due before, is the model's choice (log 2), and so is when the grant inside it is made
(log 9). -/
def Obligations.SilenceEntersSafe : Prop :=
  ∀ s : State,
    (s.nc.timer = none → exec .silenceExpiry s = .next s) ∧
    ∀ e, s.resetHeld = false → s.nc.timer = some e → s.reaches e = true →
      let ended := endAllLists .nodeSafe { s with
        tcu := { s.tcu with stamp := e }
        nc := { s.nc with state := .safe, timer := none } }
      let t : State := { ended with
        su := { table := [], nextHandle := s.su.nextHandle }
        ou := { lines := s.ou.lines.map fun l =>
          { level := l.safe, safe := l.safe, source := .safe, stamp := e } }
        nq := ended.nq.raise e (.safeEntered (runningMask s.se) s.su.table.length) }
      exec .silenceExpiry s = .next t ∧
      t.nc = { s.nc with state := .safe, timer := none } ∧
      (∀ k, (s.list k).state.running = true →
        (t.list k).state = .ready ∧ (t.list k).endRecord = some (.nodeSafe, e) ∧
        (t.list k).passes = (s.list k).passes ∧ (t.list k).defn = (s.list k).defn) ∧
      (∀ k, (s.list k).state.running = false → t.list k = s.list k) ∧
      t.tcu = { s.tcu with stamp := e } ∧ t.se.steps = s.se.steps ∧ t.cv.settings = s.cv.settings ∧
      t.rs = s.rs ∧ t.wu = s.wu ∧ t.li = s.li ∧ t.rh = s.rh ∧ t.resetHeld = s.resetHeld ∧
      t.free = s.free ∧ t.pending = s.pending

/-! ### Tickets, channel settings and grants -/

/-- SET_CHANNEL: an option group out of range is refused; otherwise each field given is written for
every channel of the mask, each other field and channel stays, and the reply carries all sixteen
settings as they then stand (R49, 12 §12.3). -/
def Obligations.SetChannelWritesGivenFields : Prop :=
  ∀ (r : Req) (s : State), Hears .setChannel r s → r.body.length = 5 →
    let u := s.taken .setChannel r
    match parseOptGroup r.body 2 with
    | .error d => exec (.setChannel r) s = .next (refuses .setChannel r s .field d)
    | .ok g => ∃ table : Vector Options 16,
      (∀ c : Fin 16, table[c] = if (wordAt r.body 0).testBit c.val = true then
          { settle := g.settle.getD s.cv.settings[c].settle
            averaging := g.averaging.getD s.cv.settings[c].averaging
            mode := g.mode.getD s.cv.settings[c].mode
            check := g.check.getD s.cv.settings[c].check }
        else s.cv.settings[c]) ∧
      exec (.setChannel r) s = .next (accepts .setChannel r s
        ((List.finRange 16).flatMap fun c => optGroupBytes
          { settle := some table[c].settle, averaging := some table[c].averaging,
            mode := some table[c].mode, check := some table[c].check })
        { u with cv := { u.cv with settings := table } })

/-- CONVERT: a channel above 15 and an option out of range are refused FIELD, eight waiting tickets FULL;
otherwise a ticket with the first free number from the next ticket number is placed at the back, and the
next ticket number moves on (R33, R34, R35). Then, where the conversion in flight belongs to a list whose
preemptible flag is set, it gives way, with its preemption counted (R13, R41); and a grant is made where
the converter is free (R36). The reply carries the number and the queue position: 0 where the ticket's
own conversion is in flight by then, else its place among the waiting tickets, 1 the next (R35). -/
def Obligations.ConvertPlacesTicket : Prop :=
  ∀ (r : Req) (s : State), Hears .convert r s → r.body.length = 5 →
    let u := s.taken .convert r
    match below 16 (byteAt r.body 0), parseOptGroup r.body 1 with
    | none, _ => exec (.convert r) s = .next (refuses .convert r s .field 1)
    | some _, .error d => exec (.convert r) s = .next (refuses .convert r s .field d)
    | some c, .ok g =>
      if 8 ≤ s.ca.queue.length then exec (.convert r) s = .next (refuses .convert r s .full 0)
      else
        let n := s.ca.freeNumber
        let ticket : Ticket := { number := n, channel := c, options := g,
                                 toFifo := (byteAt r.body 4).testBit 0, notify := (byteAt r.body 4).testBit 1 }
        let placed : State := { u with ca := { u.ca with
          queue := s.ca.queue ++ [ticket], nextTicket := if 127 ≤ n then 1 else n + 1 } }
        let t := match s.ca.grant.map Grant.owner with
          | some (.list k _) =>
            if ((s.list k).defn.map ListDef.preemptible).getD false = true then makeGrant
              ({ placed with ca := { placed.ca with grant := none }
                             cv := { placed.cv with state := .idle } }.updList k fun l =>
                { l with inFlight := false, preemptions := min (l.preemptions + 1) 65535 })
            else makeGrant placed
          | _ => makeGrant placed
        let place := (t.ca.queue.findIdx fun x => x.number == n) + 1
        let position := match t.ca.grant.map Grant.owner with
          | some (.ticket m _ _) => if m = n then 0 else place
          | _ => place
        exec (.convert r) s = .next (accepts .convert r s (u8 n ++ u8 position) t)

/-- A ticket number given is in the range 1 to 127, belongs to no waiting ticket and to none in flight,
and is the first such from the next ticket number on, counting on from 127 to 1 (R34); so too a handle,
in the range 1 to 255 (R116). -/
def Obligations.NumbersGivenAreFirstFree : Prop :=
  (∀ a : Arbiter, 1 ≤ a.nextTicket → a.nextTicket ≤ 127 → a.queue.length ≤ 8 →
    ∃ j, j < 127 ∧ a.freeNumber = (a.nextTicket - 1 + j) % 127 + 1 ∧
      a.numberUsed a.freeNumber = false ∧
      ∀ i, i < j → a.numberUsed ((a.nextTicket - 1 + i) % 127 + 1) = true) ∧
  (∀ q : ScheduleUnit, 1 ≤ q.nextHandle → q.nextHandle ≤ 255 → q.table.length ≤ 24 →
    ∃ j, j < 255 ∧ q.freeHandle = (q.nextHandle - 1 + j) % 255 + 1 ∧
      q.handleUsed q.freeHandle = false ∧
      ∀ i, i < j → q.handleUsed ((q.nextHandle - 1 + i) % 255 + 1) = true)

/-- CANCEL_CONVERT: a number that is 0 or above 127 is refused FIELD; a waiting ticket leaves the queue;
the ticket in flight is abandoned, with the grant that follows; any other number changes nothing
(R43, R45, R36). -/
def Obligations.CancelConvertOutcomes : Prop :=
  ∀ (r : Req) (s : State), Hears .cancelConvert r s → r.body.length = 1 →
    let u := s.taken .cancelConvert r
    let n := byteAt r.body 0
    exec (.cancelConvert r) s = .next (
      if n = 0 ∨ 127 < n then refuses .cancelConvert r s .field 1
      else if ∃ t ∈ s.ca.queue, t.number = n then
        accepts .cancelConvert r s (u8 n ++ [1])
          { u with ca := { u.ca with queue := s.ca.queue.filter fun t => t.number != n } }
      else if s.ca.inFlightTicket = some n then
        accepts .cancelConvert r s (u8 n ++ [2])
          (makeGrant { u with ca := { u.ca with grant := none }, cv := { u.cv with state := .idle } })
      else accepts .cancelConvert r s (u8 n ++ [3]) u)

/-- A grant (R36, R37, R38, R52): none unless the converter is IDLE and the grant record NONE; the oldest
ticket first, which leaves the queue and moves no pointer; else the list first in turn at the highest
claiming level, whose in-flight flag is set and whose level's pointer becomes its number. The options are
fixed from the step or ticket and the channel settings, the grant record takes the present stamp, and the
converter starts: CHECKING for 10 µs, or SETTLING for the settle time. That a list's options are read
from the step memory at the grant is the model's reading (log 11). -/
def Obligations.GrantRule : Prop :=
  ∀ s : State,
    let fixed := fun (c : Fin 16) (g : OptGroup) =>
      ({ settle := g.settle.getD s.cv.settings[c].settle
         averaging := g.averaging.getD s.cv.settings[c].averaging
         mode := g.mode.getD s.cv.settings[c].mode
         check := g.check.getD s.cv.settings[c].check } : Options)
    let started := fun (c : Fin 16) (x : Options) =>
      let ctx : Context := { channel := c, options := x,
                             phaseEnd := s.tcu.stamp + BitVec.ofNat 32 (if x.check then 10 else x.settle),
                             charged := none, discharged := none, firstSample := none, samples := 0,
                             sum := 0, highSeen := false, lowSeen := false }
      if x.check then ConverterState.checking ctx else ConverterState.settling ctx
    (s.cv.state ≠ .idle ∨ s.ca.grant.isSome = true → makeGrant s = s) ∧
    (s.cv.state = .idle → s.ca.grant = none →
      (∀ t rest, s.ca.queue = t :: rest → makeGrant s = { s with
        ca := { s.ca with
          queue := rest
          grant := some { owner := .ticket t.number t.toFifo t.notify, channel := t.channel
                          options := fixed t.channel t.options, stamp := s.tcu.stamp } }
        cv := { s.cv with state := started t.channel (fixed t.channel t.options) } }) ∧
      (s.ca.queue = [] → (∀ k, listClaims s k = false) → makeGrant s = s) ∧
      (s.ca.queue = [] → ∀ k level c g, listClaims s k = true → listLevel s k = some level →
        currentStep s k = some (.convert c g) →
        (∀ j other, listClaims s j = true → listLevel s j = some other → other ≤ level ∧
          (other = level → (k - s.ca.pointers[level] - 1).val ≤ (j - s.ca.pointers[level] - 1).val)) →
        makeGrant s = { s with
          se := { s.se with lists := s.se.lists.set k { s.list k with inFlight := true } }
          ca := { s.ca with
            pointers := s.ca.pointers.set level k
            grant := some { owner := .list k (s.list k).stepIndex, channel := c, options := fixed c g
                            stamp := s.tcu.stamp } }
          cv := { s.cv with state := started c (fixed c g) } }))

/-! ### The converter and its records -/

/-- CALIBRATION_END, CHECK_END and SETTLE_END, where the converter is in the state and its stamp is the
next thing due: IDLE and a grant (R51); both readings held at FAST resolution, and SETTLING from the
phase end on (R53); the first-sample stamp taken and the first sample begun (R54). Otherwise nothing
happens (R62). That the command takes place at the due stamp, provided that nothing else is due before,
is the model's choice (log 2); that the readings are 12-bit levels given with the command, of which a
FAST reading keeps the upper ten bits, is the model's too (log 4); and so is that both become present at
the end of the phase (log 16). -/
def Obligations.ConverterPhasesEnd : Prop :=
  ∀ s : State,
    (s.cv.state ≠ .calibrating → exec .calibrationEnd s = .next s) ∧
    (s.resetHeld = false → s.cv.state = .calibrating → s.reaches 1500 = true →
      exec .calibrationEnd s = .next (makeGrant { s with
        tcu := { s.tcu with stamp := 1500 }, cv := { s.cv with state := .idle } })) ∧
    ((∀ c, s.cv.state ≠ .checking c) → ∀ a b, exec (.checkEnd a b) s = .next s) ∧
    (∀ c (charged discharged : BitVec 12), s.resetHeld = false → s.cv.state = .checking c →
      s.reaches c.phaseEnd = true →
      exec (.checkEnd charged discharged) s = .next { s with
        tcu := { s.tcu with stamp := c.phaseEnd }
        cv := { s.cv with state := .settling { c with
          charged := some (charged.toNat / 4 * 4), discharged := some (discharged.toNat / 4 * 4)
          phaseEnd := c.phaseEnd + BitVec.ofNat 32 c.options.settle } } }) ∧
    ((∀ c, s.cv.state ≠ .settling c) → exec .settleEnd s = .next s) ∧
    (∀ c, s.resetHeld = false → s.cv.state = .settling c → s.reaches c.phaseEnd = true →
      exec .settleEnd s = .next { s with
        tcu := { s.tcu with stamp := c.phaseEnd }
        cv := { s.cv with state := .sampling { c with
          firstSample := some c.phaseEnd
          phaseEnd := c.phaseEnd + (if c.options.mode = .standard then 8 else 3) } } })

/-- SAMPLE_END, where the sample's end is the next thing due: the code, at the mode's resolution, is
added and clips noted; then the next sample begins, or the conversion completes with the grant closed,
the record numbered, stored, evaluated by every watch on its channel (WatchEvaluation) and passed to its
owner, and a grant (R39, R55, R56, R57, R58, R59, R60). That the command takes place at the due stamp,
provided that nothing else is due before, is the model's choice (log 2); that the sample is a 12-bit
level given with the command, of which a FAST code keeps the upper ten bits, is the model's too (log 4).
-/
def Obligations.SampleEnds : Prop :=
  ∀ (s : State) (level : BitVec 12),
    ((∀ c, s.cv.state ≠ .sampling c) → exec (.sampleEnd level) s = .next s) ∧
    ∀ c g, s.resetHeld = false → s.cv.state = .sampling c → s.reaches c.phaseEnd = true →
      s.ca.grant = some g →
      let code := if c.options.mode = .standard then level.toNat else level.toNat / 4 * 4
      let top := if c.options.mode = .standard then 4095 else 4092
      let at_ : State := { s with tcu := { s.tcu with stamp := c.phaseEnd } }
      let sum := c.sum + code
      let high := c.highSeen || code == top
      let low := c.lowSeen || code == 0
      (c.samples + 1 < c.options.averaging.count →
        exec (.sampleEnd level) s = .next { at_ with cv := { s.cv with state := .sampling { c with
          sum := sum, samples := c.samples + 1, highSeen := high, lowSeen := low
          phaseEnd := c.phaseEnd + (if c.options.mode = .standard then 8 else 3) } } }) ∧
      (c.options.averaging.count ≤ c.samples + 1 →
        let record : Record :=
          { seq := s.rs.nextSeq, value := sum / c.options.averaging.count, stamp := c.firstSample.getD 0
            channel := c.channel
            flags := { openInput := c.options.check && c.charged.any (fun n => decide (3968 ≤ n))
                         && c.discharged.any (fun n => decide (n ≤ 127))
                       clipHigh := high, clipLow := low, fast := c.options.mode == .fast }
            source := match g.owner with
              | .list k step => .list k step
              | .ticket n _ _ => .ticket n }
        let toFifo := match g.owner with
          | .list k _ => ((s.list k).defn.map ListDef.toFifo).getD false
          | .ticket _ toFifo _ => toFifo
        let closed : State := { at_ with
          ca := { s.ca with grant := none }, cv := { s.cv with state := .idle } }
        let stored := storeRecord record toFifo closed
        let seen := evaluateAll record stored.1
        exec (.sampleEnd level) s = .next (makeGrant (match g.owner with
          | .list k _ => recordToList k (stored.2 == .dropped) seen
          | .ticket n _ notify => if notify then seen.raise (.convertDone n record) else seen)))

/-- A record stored (R65, R66, R67, R70, R71): the next result sequence moves on, the channel's latest
entry becomes the record, fresh; it is offered where the source asks. With fewer than 384 records it
enters at the back, with FIFO_LEVEL and the notice disarmed where it makes the fill an armed level; with
384 it is dropped and counted, with FIFO_FULL and that notice disarmed where it was armed. -/
def Obligations.RecordStored : Prop :=
  ∀ (x : Record) (s : State),
    let placed : ResultStore := { s.rs with
      nextSeq := s.rs.nextSeq + 1
      latest := s.rs.latest.set x.channel (some { record := x, fresh := true }) }
    storeRecord x false s = ({ s with rs := placed }, .notOffered) ∧
    (s.rs.fifo.length < 384 →
      (s.rs.levelArmed = true ∧ s.rs.level ≠ 0 ∧ s.rs.level = s.rs.fifo.length + 1 →
        storeRecord x true s = ({ s with
          rs := { placed with fifo := s.rs.fifo ++ [x], levelArmed := false }
          nq := s.nq.raise s.tcu.stamp (.fifoLevel (s.rs.fifo.length + 1)) }, .entered)) ∧
      (¬ (s.rs.levelArmed = true ∧ s.rs.level ≠ 0 ∧ s.rs.level = s.rs.fifo.length + 1) →
        storeRecord x true s = ({ s with rs := { placed with fifo := s.rs.fifo ++ [x] } }, .entered))) ∧
    (384 ≤ s.rs.fifo.length →
      storeRecord x true s = ({ s with
        rs := { placed with dropped := min (s.rs.dropped + 1) 65535, fullArmed := false }
        nq := if s.rs.fullArmed then s.nq.raise s.tcu.stamp .fifoFull else s.nq }, .dropped))

/-! ### The requests of the Result Store -/

/-- READ_LATEST: an item for each channel of the mask, in order, with its fresh flag as it stood, and
then the fresh flags carried are cleared (R68). READ_FIFO, CLEAR_FIFO and SET_FIFO_LEVEL (R73, R74, R77,
R78): the count or level out of range is refused; the oldest records leave and are carried with the
remaining and the dropped count, which is then 0, and the notices rearm by the new fill; all records
discarded and both notices armed; the level written and its notice armed by the fill. -/
def Obligations.ResultRequests : Prop :=
  ∀ (r : Req) (s : State),
    (Hears .readLatest r s → r.body.length = 2 →
      let u := s.taken .readLatest r
      let asked := fun c : Fin 16 => (wordAt r.body 0).testBit c.val
      ∃ after : Vector (Option LatestEntry) 16,
        (∀ c : Fin 16, after[c] = if asked c = true then
            s.rs.latest[c].map fun e => { record := e.record, fresh := false } else s.rs.latest[c]) ∧
        exec (.readLatest r) s = .next (accepts .readLatest r s
          (((List.finRange 16).filter asked).flatMap fun c => match s.rs.latest[c] with
            | none => u8 c.val
            | some e => u8 (c.val + (if e.fresh then 64 else 0) + 128) ++ recordBytes e.record)
          { u with rs := { u.rs with latest := after } })) ∧
    (Hears .readFifo r s → r.body.length = 1 →
      let u := s.taken .readFifo r
      let most := byteAt r.body 0
      let rest := s.rs.fifo.drop most
      exec (.readFifo r) s = .next (
        if most = 0 ∨ 19 < most then refuses .readFifo r s .field 1
        else accepts .readFifo r s
          (u16 rest.length ++ u16 s.rs.dropped ++ (s.rs.fifo.take most).flatMap recordBytes)
          { u with rs := { u.rs with
              fifo := rest
              dropped := 0
              levelArmed := s.rs.levelArmed || decide (s.rs.level ≠ 0 ∧ rest.length < s.rs.level)
              fullArmed := s.rs.fullArmed || decide (rest.length ≤ 192) } })) ∧
    (Hears .clearFifo r s → r.body = [] →
      let u := s.taken .clearFifo r
      exec (.clearFifo r) s = .next (accepts .clearFifo r s (u16 s.rs.fifo.length ++ u16 s.rs.dropped)
        { u with rs := { u.rs with
            fifo := [], dropped := 0, levelArmed := true, fullArmed := true } })) ∧
    (Hears .setFifoLevel r s → r.body.length = 2 →
      let u := s.taken .setFifoLevel r
      let level := wordAt r.body 0
      let armed := decide (level = 0 ∨ s.rs.fifo.length < level)
      exec (.setFifoLevel r) s = .next (
        if 384 < level then refuses .setFifoLevel r s .field 1
        else accepts .setFifoLevel r s (u16 level ++ u16 s.rs.fifo.length ++ [if armed then 1 else 0])
          { u with rs := { u.rs with level := level, levelArmed := armed } }))

/-! ### Watches -/

/-- SET_WATCH and CLEAR_WATCH: a watch number above 11 and a definition out of range are refused FIELD;
SET_WATCH writes the definition with zone UNKNOWN, CLEAR_WATCH makes the entry UNUSED; every other watch
and everything else stays (R80, R91, R92). -/
def Obligations.WatchRequests : Prop :=
  ∀ (r : Req) (s : State),
    (Hears .setWatch r s → r.body.length = 12 →
      let u := s.taken .setWatch r
      match below 12 (byteAt r.body 0), parseWatchDef r.body with
      | none, _ => exec (.setWatch r) s = .next (refuses .setWatch r s .field 1)
      | some _, .error d => exec (.setWatch r) s = .next (refuses .setWatch r s .field d)
      | some w, .ok d => exec (.setWatch r) s = .next (accepts .setWatch r s
          (u8 w.val ++ [if (s.watch w).isSome then 1 else 0])
          { u with wu := { u.wu with
              watches := s.wu.watches.set w
                (some { defn := d, zone := none, pending := none, count := 0, zoneSeq := none }) } })) ∧
    (Hears .clearWatch r s → r.body.length = 1 →
      let u := s.taken .clearWatch r
      match below 12 (byteAt r.body 0) with
      | none => exec (.clearWatch r) s = .next (refuses .clearWatch r s .field 1)
      | some w => exec (.clearWatch r) s = .next (accepts .clearWatch r s
          (u8 w.val ++ [if (s.watch w).isSome then 1 else 2])
          { u with wu := { watches := s.wu.watches.set w none } }))

/-- A record is evaluated by the watches on its channel, one after another in increasing order of watch
number, each to its end before the next; a watch on another channel and an UNUSED entry are not touched
(R81). A watch evaluates a record (R82, R83, R84): skipped when OPEN; else its candidate zone by the
limits and the hysteresis; the zone changes once as many records in a row as the confirm count point to
it. -/
def Obligations.WatchEvaluation : Prop :=
  (∀ (d : WatchDef) (value : Nat),
    let outside := if d.high < value then Zone.above else if value < d.low then .below else .inside
    candidate d none value = outside ∧ candidate d (some .inside) value = outside ∧
    candidate d (some .above) value =
      (if value < d.low then .below else if value ≤ d.high - d.hysteresis then .inside else .above) ∧
    candidate d (some .below) value =
      (if d.high < value then .above else if d.low + d.hysteresis ≤ value then .inside else .below)) ∧
  (∀ (e : WatchEntry) (c : Zone) (seq : BitVec 16),
    (e.zone = some c → confirmZone e c seq = ({ e with pending := none, count := 0 }, false)) ∧
    (e.zone ≠ some c →
      let n := if e.pending = some c then e.count + 1 else 1
      confirmZone e c seq = if n = e.defn.confirm then
          ({ e with zone := some c, pending := none, count := 0, zoneSeq := some seq }, true)
        else ({ e with pending := some c, count := n }, false))) ∧
  (∀ (x : Record) (s : State), evaluateAll x s = (List.finRange 12).foldl (evaluate x) s) ∧
  ∀ (x : Record) (s : State) (w : Fin 12),
    (s.watch w = none → evaluate x s w = s) ∧
    ∀ e, s.watch w = some e →
      (e.defn.channel ≠ x.channel → evaluate x s w = s) ∧
      (e.defn.channel = x.channel → x.flags.openInput = true →
        evaluate x s w = s.setWatch w (some { e with pending := none, count := 0 })) ∧
      (e.defn.channel = x.channel → x.flags.openInput = false →
        let after := confirmZone e (candidate e.defn e.zone x.value) x.seq
        evaluate x s w = if after.2 = true
          then zoneChanged w e.defn e.zone (candidate e.defn e.zone x.value) x (s.setWatch w (some after.1))
          else s.setWatch w (some after.1))

/-- A zone change (R85, R86, R87, R88, R89): from UNKNOWN it raises an initial WATCH_ZONE and nothing
else; a crossing raises WATCH_ZONE where the new zone's action notifies, then writes its line with source
WATCH in RUN only, then delivers its trigger. -/
def Obligations.ZoneChangeConsequences : Prop :=
  ∀ (w : Fin 12) (d : WatchDef) (new : Zone) (x : Record) (s : State),
    zoneChanged w d none new x s = { s with
      nq := s.nq.raise s.tcu.stamp
        (.watchZone w d.channel none (some new) true x.value x.seq) } ∧
    ∀ old : Zone,
      let action := match new with
        | .below => d.onBelow
        | .inside => d.onInside
        | .above => d.onAbove
      let noted : State := if (action.map WatchAction.notify).getD false then
          { s with
            nq := s.nq.raise s.tcu.stamp
              (.watchZone w d.channel (some old) (some new) false x.value x.seq) } else s
      (∀ (line : Fin 4) (level : Level), action.bind WatchAction.output = some (line, level) →
        s.nc.state = .run →
        zoneChanged w d (some old) new x s = deliver true (.watch w new) { noted with
          ou := { noted.ou with
            lines := s.ou.lines.set line
              { s.line line with level := level, source := .watch w, stamp := s.tcu.stamp } } }) ∧
      (action.bind WatchAction.output = none ∨ s.nc.state ≠ .run →
        zoneChanged w d (some old) new x s = deliver true (.watch w new) noted)

/-! ### Captures -/

/-- CAPTURE_PIN_CHANGE on a running node (R100, R101): the pin takes the level; a change that the edge
select does not admit settles at once; one it admits is accepted at once without a debounce, and begins a
debounce context with one; a return to the settled level ends a context with nothing recorded. -/
def Obligations.CapturePinChanges : Prop :=
  ∀ (k : Fin 4) (v : Level) (s : State), s.resetHeld = false →
    let i := s.input k
    let pinned : State := { s with tcu := { s.tcu with pins := s.tcu.pins.set k v } }
    let d : Direction := if v = .high then .rising else .falling
    let settled := pinned.updInput k fun i => { i with settled := v }
    (s.tcu.pins[k] = v → exec (.capturePinChange k v) s = .next s) ∧
    (s.tcu.pins[k] ≠ v →
      (i.context.isSome = true ∧ v ≠ i.settled ∨ i.context = none ∧ v = i.settled →
        exec (.capturePinChange k v) s = .next pinned) ∧
      (i.context.isSome = true → v = i.settled →
        exec (.capturePinChange k v) s = .next (pinned.updInput k fun i => { i with context := none })) ∧
      (i.context = none → v ≠ i.settled →
        (i.edge = .off ∨ (i.edge = .rising ∧ d = .falling) ∨ (i.edge = .falling ∧ d = .rising) →
          exec (.capturePinChange k v) s = .next settled) ∧
        (¬ (i.edge = .off ∨ (i.edge = .rising ∧ d = .falling) ∨ (i.edge = .falling ∧ d = .rising)) →
          exec (.capturePinChange k v) s = .next (
            if i.debounce = 0 then acceptEdge k d s.tcu.stamp settled
            else pinned.updInput k fun i => { i with context := some (s.tcu.stamp, d) }))))

/-- DEBOUNCE_END, where the context's end is the next thing due and the pin is at the new level: the
context goes, the level settles, and the edge is accepted with the context's own stamp and direction
(R101). An accepted edge is logged, delivered as a trigger, ends the AWAIT steps, and raises
CAPTURE_EVENT where the input notifies, in that order (R102). The AWAIT steps it ends are those on its
input at which a list stands ACTIVE as it is accepted, taken one at a time in increasing order of list
number (R15); one that a run started or restarted by the same edge begins is not among them (R24). That
the command takes place at the due stamp, provided that nothing else is due before, is the model's choice
(log 2); the mark by which the standing steps are told from later ones is the model's own (log 10), and
when grants inside it are made is the model's reading (log 9). -/
def Obligations.DebounceEnds : Prop :=
  (∀ (k : Fin 4) (s : State), (s.input k).context = none → exec (.debounceEnd k) s = .next s) ∧
  (∀ (k : Fin 4) (s : State) (stamp : Stamp) (d : Direction), s.resetHeld = false →
    (s.input k).context = some (stamp, d) →
    let level : Level := if d = .rising then .high else .low
    let ends := stamp + BitVec.ofNat 32 (s.input k).debounce
    s.tcu.pins[k] = level → s.reaches ends = true →
    exec (.debounceEnd k) s = .next (acceptEdge k d stamp
      ({ s with tcu := { s.tcu with stamp := ends } }.updInput k fun i =>
        { i with context := none, settled := level }))) ∧
  (∀ (k : Fin 4) (s : State), ∃ lists : Vector ListRecord 8,
    markWaiting k s = { s with se := { s.se with lists := lists } } ∧ ∀ j : Fin 8,
      (∀ t, (s.list j).state = .active → currentStep s j = some (.await k t) →
        lists[j] = { s.list j with edgeWaiting := true }) ∧
      ((s.list j).state ≠ .active ∨ (∀ t, currentStep s j ≠ some (.await k t)) → lists[j] = s.list j)) ∧
  (∀ s : State, finishWaiting s = (List.finRange 8).foldl
    (fun t j => if (t.list j).edgeWaiting = true then finishStep false j t else t) s) ∧
  (∀ (k : Fin 4) (s : State) (j : Fin 8), (s.list j).Sound → (s.list j).state = .armed →
    ((startRun false j (markWaiting k s)).list j).edgeWaiting = false) ∧
  (∀ (k : Fin 4) (s : State) (j : Fin 8), (s.list j).Sound → (s.list j).state.running = true →
    ((startRun true j (closeRun j .retriggered (markWaiting k s))).list j).edgeWaiting = false) ∧
  ∀ (k : Fin 4) (d : Direction) (stamp : Stamp) (s : State),
    let finished := finishWaiting (deliver false (.capture k) (markWaiting k (logEntry (.edge k d stamp) s)))
    acceptEdge k d stamp s = if (s.input k).notify = true then
      { finished with nq := finished.nq.raise finished.tcu.stamp (.captureEvent k d) } else finished

/-- An entry offered to the capture log (R103, R104): appended while it holds fewer than 32; else dropped
and counted, with CAPTURE_OVERFLOW and that notice disarmed where it was armed. MARK offers one stamped
at the delivery of its frame and answers whether it was logged (R105). -/
def Obligations.CaptureLogAndMark : Prop :=
  (∀ (e : LogEntry) (s : State),
    (s.tcu.log.length < 32 →
      logEntry e s = { s with tcu := { s.tcu with log := s.tcu.log ++ [e] } }) ∧
    (32 ≤ s.tcu.log.length → logEntry e s = { s with
      tcu := { s.tcu with dropped := min (s.tcu.dropped + 1) 65535, overflowArmed := false }
      nq := if s.tcu.overflowArmed then s.nq.raise s.tcu.stamp .captureOverflow else s.nq })) ∧
  ∀ (r : Req) (s : State), Hears .mark r s → r.body = [] →
    exec (.mark r) s = .next (accepts .mark r s
      (u32 s.tcu.stamp.toNat ++ [if s.tcu.log.length < 32 then 1 else 2])
      (logEntry (.mark s.tcu.stamp) (s.taken .mark r)))

/-- SET_CAPTURE (R99): a mask, edge select, debounce or notify out of range is refused FIELD with its own
detail; otherwise each setting given is written for each masked input, its context is discarded and its
settled level becomes its pin's; every other input stays; the reply carries the settings of all four.
READ_CAPTURES (R104, R106): the oldest entries leave and are carried with the remaining and the dropped
count, which is then 0, and an empty log arms the overflow notice. -/
def Obligations.CaptureRequests : Prop :=
  ∀ (r : Req) (s : State),
    (Hears .setCapture r s → r.body.length = 5 →
      let u := s.taken .setCapture r
      let mask := byteAt r.body 0
      let edge := byteAt r.body 1
      let debounce := wordAt r.body 2
      let notify := byteAt r.body 4
      (15 < mask → exec (.setCapture r) s = .next (refuses .setCapture r s .field 1)) ∧
      (mask ≤ 15 → 4 < edge → exec (.setCapture r) s = .next (refuses .setCapture r s .field 2)) ∧
      (mask ≤ 15 → edge ≤ 4 → 255 < debounce ∧ debounce ≠ 65535 →
        exec (.setCapture r) s = .next (refuses .setCapture r s .field 3)) ∧
      (mask ≤ 15 → edge ≤ 4 → debounce ≤ 255 ∨ debounce = 65535 → 2 < notify →
        exec (.setCapture r) s = .next (refuses .setCapture r s .field 5)) ∧
      (mask ≤ 15 → edge ≤ 4 → debounce ≤ 255 ∨ debounce = 65535 → notify ≤ 2 →
        ∃ inputs : Vector CaptureInput 4,
          (∀ k : Fin 4, inputs[k] = if mask.testBit k.val = true then
              { edge := match edge with
                  | 1 => .off
                  | 2 => .rising
                  | 3 => .falling
                  | 4 => .both
                  | _ => (s.input k).edge
                debounce := if debounce = 65535 then (s.input k).debounce else debounce
                notify := match notify with
                  | 1 => false
                  | 2 => true
                  | _ => (s.input k).notify
                settled := s.tcu.pins[k]
                context := none }
            else s.input k) ∧
          exec (.setCapture r) s = .next (accepts .setCapture r s
            (([0, 1, 2, 3] : List (Fin 4)).flatMap fun k =>
              u8 inputs[k].edge.code ++ u8 inputs[k].debounce ++ [if inputs[k].notify then 2 else 1])
            { u with tcu := { u.tcu with inputs := inputs } }))) ∧
    (Hears .readCaptures r s → r.body.length = 1 →
      let u := s.taken .readCaptures r
      let most := byteAt r.body 0
      let rest := s.tcu.log.drop most
      exec (.readCaptures r) s = .next (
        if most = 0 ∨ 32 < most then refuses .readCaptures r s .field 1
        else accepts .readCaptures r s
          (u8 rest.length ++ u16 s.tcu.dropped ++ (s.tcu.log.take most).flatMap logEntryBytes)
          { u with tcu := { u.tcu with
              log := rest, dropped := 0
              overflowArmed := s.tcu.overflowArmed || decide (rest = []) } }))

/-! ### The schedule -/

/-- SCHEDULE (R115, R116, R117, R118): FIELD with the detail of the first offending field, then STATE
outside RUN, FULL with 24 entries, LATE unless the due stamp lies 1 to 2^31 - 1 µs ahead; otherwise the
entry is placed under the first free handle, after every entry as near or nearer, and the reply carries
the handle and the position. -/
def Obligations.SchedulePlacesEntry : Prop :=
  ∀ (r : Req) (s : State), Hears .schedule r s → bodyLengthOk .schedule r.body = true →
    let u := s.taken .schedule r
    match parseSchedule r.body s with
    | .error d => exec (.schedule r) s = .next (refuses .schedule r s .field d)
    | .ok x =>
      let ahead := distance s.tcu.stamp x.due
      let h := s.su.freeHandle
      let entry : ScheduleEntry := { handle := h, due := x.due, action := x.action, period := x.period,
                                     repeats := x.repeats, notify := x.notify }
      let near := s.su.table.takeWhile fun e => decide (distance s.tcu.stamp e.due ≤ ahead)
      let far := s.su.table.dropWhile fun e => decide (distance s.tcu.stamp e.due ≤ ahead)
      exec (.schedule r) s = .next (
        if s.nc.state ≠ .run then refuses .schedule r s .state 0
        else if 24 ≤ s.su.table.length then refuses .schedule r s .full 0
        else if ahead = 0 ∨ 2147483647 < ahead then refuses .schedule r s .late 0
        else accepts .schedule r s
          (u8 h ++ u8 ((near ++ entry :: far).findIdx (fun e => e.handle == h) + 1))
          { u with su := { table := near ++ entry :: far, nextHandle := if 255 ≤ h then 1 else h + 1 } })

/-- A SCHEDULE body (R117, R181, 12 §12.6): read and refused field by field. The notify byte's range is
the model's own reading (log 8). -/
def Obligations.ScheduleBodyIsChecked : Prop :=
  ∀ (b : List Byte) (s : State),
    let timing := fun (o : Nat) (a : Action) (res : Except Nat ScheduleBody) =>
      let period := longAt b (o + 4)
      let repeats := wordAt b (o + 8)
      let notify := byteAt b (o + 10)
      res = if (1 ≤ period ∧ period ≤ 99) ∨ 1000000000 < period then .error (o + 5)
        else if period = 0 ∧ repeats ≠ 0 then .error (o + 9)
        else if 1 < notify then .error (o + 11)
        else .ok { action := a, due := BitVec.ofNat 32 (longAt b o), period := period, repeats := repeats
                   notify := notify == 1 }
    (byteAt b 0 ≠ 1 → byteAt b 0 ≠ 2 → parseSchedule b s = .error 1) ∧
    (byteAt b 0 = 1 →
      (3 < byteAt b 1 → parseSchedule b s = .error 2) ∧
      ∀ line : Fin 4, byteAt b 1 = line.val →
        (byteAt b 2 = 1 → timing 3 (.setLine line .low) (parseSchedule b s)) ∧
        (byteAt b 2 = 2 → timing 3 (.setLine line .high) (parseSchedule b s)) ∧
        (byteAt b 2 ≠ 1 → byteAt b 2 ≠ 2 → parseSchedule b s = .error 3)) ∧
    (byteAt b 0 = 2 →
      (7 < byteAt b 1 → parseSchedule b s = .error 2) ∧
      ∀ k : Fin 8, byteAt b 1 = k.val →
        ((∃ d, (s.list k).defn = some d ∧ d.source = .schedule) →
          timing 2 (.startList k) (parseSchedule b s)) ∧
        ((∀ d, (s.list k).defn = some d → d.source ≠ .schedule) → parseSchedule b s = .error 2))

/-- ACTION_FIRING, where the front entry's due stamp is the next thing due: its line is written with
source SCHEDULE and its handle, or its list takes the trigger; then ACTION_FIRED with the repeats left;
then it is removed, or comes back one period later after every entry as near or nearer (R119, R120, R121,
R122). On an empty table nothing fires. That the command takes place at the due stamp, provided that
nothing else is due before, is the model's choice (log 2). So is when a grant inside it is made (log 9). -/
def Obligations.ActionFires : Prop :=
  ∀ s : State,
    (s.su.table = [] → exec .actionFiring s = .next s) ∧
    ∀ e rest, s.resetHeld = false → s.su.table = e :: rest → s.reaches e.due = true →
      let at_ : State := { s with tcu := { s.tcu with stamp := e.due } }
      let left := if e.period = 0 then e.repeats else e.repeats - 1
      let again := e.period ≠ 0 ∧ (e.repeats = 0 ∨ left ≠ 0)
      let back : ScheduleEntry := { e with due := e.due + BitVec.ofNat 32 e.period, repeats := left }
      let near := fun x : ScheduleEntry => decide (distance e.due x.due ≤ distance e.due back.due)
      let effect := match e.action with
        | .setLine line level => { at_ with
            ou := { at_.ou with
              lines := s.ou.lines.set line
                { s.line line with level := level, source := .schedule e.handle, stamp := e.due } } }
        | .startList k => takeTrigger false .schedule k at_
      exec .actionFiring s = .next { effect with
        nq := if e.notify then effect.nq.raise e.due (.actionFired e.handle e.action left) else effect.nq
        su := { s.su with
          table := if again then rest.takeWhile near ++ back :: rest.dropWhile near else rest } }

/-- CANCEL_ACTION (R123): a handle of 0 is refused FIELD, one of no entry ABSENT; otherwise the entry is
removed, the others keep their order, and the reply carries its handle, kind, due stamp and repeats. -/
def Obligations.CancelActionRemoves : Prop :=
  ∀ (r : Req) (s : State), Hears .cancelAction r s → r.body.length = 1 →
    let u := s.taken .cancelAction r
    let h := byteAt r.body 0
    (h = 0 → exec (.cancelAction r) s = .next (refuses .cancelAction r s .field 1)) ∧
    (h ≠ 0 → (∀ e ∈ s.su.table, e.handle ≠ h) →
      exec (.cancelAction r) s = .next (refuses .cancelAction r s .absent 0)) ∧
    ∀ before e after, h ≠ 0 → s.su.table = before ++ e :: after → e.handle = h →
      (∀ x ∈ before ++ after, x.handle ≠ h) →
      exec (.cancelAction r) s = .next (accepts .cancelAction r s
        (u8 h ++ u8 e.action.code ++ u32 e.due.toNat ++ u16 e.repeats)
        { u with su := { u.su with table := before ++ after } })

/-! ### Output lines -/

/-- SET_OUTPUT and SET_SAFE_LEVELS (R109, R110, R111): a mask above 15 is refused FIELD 1, a masked line
without a level FIELD 2; SET_OUTPUT is refused STATE in SAFE and otherwise writes each masked line with
source HOST; SET_SAFE_LEVELS sets each masked line's safe level and in SAFE writes the line too, with
source SAFE. Lines not in the mask stay, and so does everything else. -/
def Obligations.OutputRequests : Prop :=
  ∀ (r : Req) (s : State) (b : List Byte), r.body = b → b.length = 2 →
    let masked := fun k : Fin 4 => (byteAt b 0).testBit k.val
    let code := fun k : Fin 4 => byteAt b 1 / 4 ^ k.val % 4
    let level := fun k : Fin 4 => if code k = 2 then Level.high else .low
    let good := ∀ k, masked k = true → code k = 1 ∨ code k = 2
    let shown := fun (f : Fin 4 → Level) =>
      u8 ((if f 0 = .high then 1 else 0) + (if f 1 = .high then 2 else 0)
        + (if f 2 = .high then 4 else 0) + (if f 3 = .high then 8 else 0))
    (Hears .setOutput r s →
      let u := s.taken .setOutput r
      (15 < byteAt b 0 → exec (.setOutput r) s = .next (refuses .setOutput r s .field 1)) ∧
      (byteAt b 0 ≤ 15 → ¬ good → exec (.setOutput r) s = .next (refuses .setOutput r s .field 2)) ∧
      (byteAt b 0 ≤ 15 → good → s.nc.state = .safe →
        exec (.setOutput r) s = .next (refuses .setOutput r s .state 0)) ∧
      (byteAt b 0 ≤ 15 → good → s.nc.state ≠ .safe → ∃ lines : Vector OutputLine 4,
        (∀ k : Fin 4, lines[k] = if masked k = true then
            { level := level k, safe := (s.line k).safe, source := .host, stamp := s.tcu.stamp }
          else s.line k) ∧
        exec (.setOutput r) s = .next (accepts .setOutput r s (shown fun k => lines[k].level)
          { u with ou := { lines := lines } }))) ∧
    (Hears .setSafeLevels r s →
      let u := s.taken .setSafeLevels r
      (15 < byteAt b 0 → exec (.setSafeLevels r) s = .next (refuses .setSafeLevels r s .field 1)) ∧
      (byteAt b 0 ≤ 15 → ¬ good →
        exec (.setSafeLevels r) s = .next (refuses .setSafeLevels r s .field 2)) ∧
      (byteAt b 0 ≤ 15 → good → ∃ lines : Vector OutputLine 4,
        (∀ k : Fin 4, lines[k] = if masked k = true then
            (if s.nc.state = .safe then
              { level := level k, safe := level k, source := .safe, stamp := s.tcu.stamp }
            else { s.line k with safe := level k })
          else s.line k) ∧
        exec (.setSafeLevels r) s = .next (accepts .setSafeLevels r s
          (shown (fun k => lines[k].safe) ++ shown fun k => lines[k].level)
          { u with ou := { lines := lines } })))

/-! ### Scan lists: requests -/

/-- WRITE_STEPS (R3): a first step above 127, then a count out of range, then the first offending field
of a record are refused FIELD; a step that a list ARMED, ACTIVE or RESTING covers BUSY; otherwise exactly
the given records are written. -/
def Obligations.WriteStepsWrites : Prop :=
  ∀ (r : Req) (s : State), Hears .writeSteps r s → bodyLengthOk .writeSteps r.body = true →
    s.ListsSound →
    let u := s.taken .writeSteps r
    let first := byteAt r.body 0
    let count := byteAt r.body 1
    let busy := ∃ k d, (s.list k).state.running = true ∧ (s.list k).defn = some d ∧
      ∃ n, first ≤ n ∧ n < first + count ∧ d.firstStep ≤ n ∧ n < d.firstStep + d.stepCount
    (127 < first → exec (.writeSteps r) s = .next (refuses .writeSteps r s .field 1)) ∧
    (first ≤ 127 → count = 0 ∨ 59 < count ∨ 128 < first + count →
      exec (.writeSteps r) s = .next (refuses .writeSteps r s .field 2)) ∧
    (1 ≤ count → count ≤ 59 → first + count ≤ 128 →
      match parseSteps r.body 2 count with
      | .error d => exec (.writeSteps r) s = .next (refuses .writeSteps r s .field d)
      | .ok records =>
        records.length = count ∧
        (busy → exec (.writeSteps r) s = .next (refuses .writeSteps r s .busy 0)) ∧
        (¬ busy → ∃ steps : Vector StepRecord 128,
          (∀ n, (h : n < 128) → steps[n] =
            if first ≤ n ∧ n < first + count then records.getD (n - first) s.se.steps[n]
            else s.se.steps[n]) ∧
          exec (.writeSteps r) s = .next (accepts .writeSteps r s []
            { u with se := { u.se with steps := steps } })))

/-- DEFINE_LIST and CLEAR_LIST (R6, R7, R8): a list number above 7 and a definition out of range are
refused FIELD, a list ARMED, ACTIVE or RESTING BUSY; otherwise the list is READY with the definition, or
UNDEFINED, its progress, counters and end record as a reset leaves them; every other list stays. -/
def Obligations.DefineAndClearList : Prop :=
  ∀ (r : Req) (s : State),
    let blank := fun (defn : Option ListDef) (state : ListState) =>
      ({ defn := defn, state := state, stepIndex := 0, passes := 0, runStart := 0, passStart := 0
         stopPending := false, triggerPending := false, inFlight := false, expiry := none, missed := 0
         overruns := 0, preemptions := 0, endRecord := none, edgeWaiting := false } : ListRecord)
    (Hears .defineList r s → r.body.length = 14 →
      let u := s.taken .defineList r
      (7 < byteAt r.body 0 → exec (.defineList r) s = .next (refuses .defineList r s .field 1)) ∧
      ∀ k : Fin 8, byteAt r.body 0 = k.val →
        match parseListDef r.body k with
        | .error d => exec (.defineList r) s = .next (refuses .defineList r s .field d)
        | .ok d => exec (.defineList r) s = .next (
          if (s.list k).state.running = true then refuses .defineList r s .busy 0
          else accepts .defineList r s (u8 k.val)
            { u with se := { u.se with lists := s.se.lists.set k (blank (some d) .ready) } })) ∧
    (Hears .clearList r s → r.body.length = 1 →
      let u := s.taken .clearList r
      (7 < byteAt r.body 0 → exec (.clearList r) s = .next (refuses .clearList r s .field 1)) ∧
      ∀ k : Fin 8, byteAt r.body 0 = k.val →
        exec (.clearList r) s = .next (
          if (s.list k).state.running = true then refuses .clearList r s .busy 0
          else accepts .clearList r s (u8 k.val)
            { u with se := { u.se with lists := s.se.lists.set k (blank none .undefined) } }))

/-- START_LIST (R25): refused FIELD, STATE, BUSY or ABSENT as the rule says; a READY HOST list starts a
run, any other READY list becomes ARMED with passes and counters 0, an ARMED list is left alone, and a
running HOST list takes a HOST trigger by R23. The reply carries the list, the outcome and its state
after. That an ARMED list whose source is HOST, which no run reaches, is answered ALREADY_ARMED too is
the model's choice (log 13), and when a grant inside it is made is the model's reading (log 9). -/
def Obligations.StartListOutcomes : Prop :=
  ∀ (r : Req) (s : State), Hears .startList r s → r.body.length = 1 →
    let u := s.taken .startList r
    let reply := fun (k : Fin 8) (outcome : Byte) (t : State) =>
      accepts .startList r s (u8 k.val ++ [outcome] ++ u8 (t.list k).state.code) t
    (7 < byteAt r.body 0 → exec (.startList r) s = .next (refuses .startList r s .field 1)) ∧
    ∀ k : Fin 8, byteAt r.body 0 = k.val →
      (s.nc.state ≠ .run → exec (.startList r) s = .next (refuses .startList r s .state 0)) ∧
      (s.nc.state = .run → (s.list k).defn = none →
        exec (.startList r) s = .next (refuses .startList r s .absent 0)) ∧
      ∀ d, s.nc.state = .run → (s.list k).defn = some d →
        ((s.list k).state = .ready → d.source = .host →
          exec (.startList r) s = .next (reply k 1 (startRun false k u))) ∧
        ((s.list k).state = .ready → d.source ≠ .host →
          exec (.startList r) s = .next (reply k 2 (u.updList k fun l =>
            { l with state := .armed, passes := 0, missed := 0, overruns := 0, preemptions := 0 }))) ∧
        ((s.list k).state = .armed → exec (.startList r) s = .next (reply k 3 u)) ∧
        ((s.list k).state = .active ∨ (s.list k).state = .resting → d.source ≠ .host →
          exec (.startList r) s = .next (refuses .startList r s .busy 0)) ∧
        ((s.list k).state = .active ∨ (s.list k).state = .resting → d.source = .host →
          exec (.startList r) s = .next (reply k
            (if (s.list k).stopPending = true then 6
             else match d.policy with
               | .ignore => 6
               | .restart => 4
               | .queueOne => if (s.list k).triggerPending = true then 6 else 5)
            (retrigger false k d.policy u)))

/-- STOP_LIST (R26, R27): a list number above 7 or an option that is neither IMMEDIATE nor FINISH is
refused FIELD; IMMEDIATE ends a run STOPPED with the grant that follows, disarms an ARMED list, and finds
any other not running; FINISH sets stop-pending on an ACTIVE list and clears its trigger-pending, and is
IMMEDIATE for any other. When a grant inside it is made is the model's reading (log 9). -/
def Obligations.StopListOutcomes : Prop :=
  ∀ (r : Req) (s : State), Hears .stopList r s → r.body.length = 2 →
    let u := s.taken .stopList r
    let option := byteAt r.body 1
    (7 < byteAt r.body 0 → exec (.stopList r) s = .next (refuses .stopList r s .field 1)) ∧
    ∀ k : Fin 8, byteAt r.body 0 = k.val →
      (2 ≤ option → exec (.stopList r) s = .next (refuses .stopList r s .field 2)) ∧
      (option = 1 → (s.list k).state = .active →
        exec (.stopList r) s = .next (accepts .stopList r s (u8 k.val ++ [2])
          (u.updList k fun l => { l with stopPending := true, triggerPending := false }))) ∧
      (option = 0 ∨ (option = 1 ∧ (s.list k).state ≠ .active) →
        ((s.list k).state = .active ∨ (s.list k).state = .resting →
          exec (.stopList r) s = .next (accepts .stopList r s (u8 k.val ++ [1])
            (makeGrant (endRun true k .stopped u)))) ∧
        ((s.list k).state = .armed →
          exec (.stopList r) s = .next (accepts .stopList r s (u8 k.val ++ [1])
            (let t := u.updList k fun l =>
                { l with state := .ready, endRecord := some (.stopped, s.tcu.stamp) }
             if ((s.list k).defn.map ListDef.notifyEnd).getD false = true then
               { t with nq := t.nq.raise s.tcu.stamp (.listEnd k .stopped (s.list k).passes
                   (s.list k).missed (s.list k).overruns (s.list k).preemptions) }
             else t))) ∧
        ((s.list k).state = .ready ∨ (s.list k).state = .undefined →
          exec (.stopList r) s = .next (accepts .stopList r s (u8 k.val ++ [3]) u)))

/-! ### Scan lists: runs -/

/-- WAIT_EXPIRY, AWAIT_TIMEOUT and REST_STAMP, where the list's stamp is the next thing due: the WAIT
step is finished (R14); the run ends AWAIT_TIMEOUT (R16); the list is ACTIVE at step 0 of a pass that
began at the rest stamp (R19). Without such a list or stamp nothing happens. That the command takes place
at the due stamp, provided that nothing else is due before, is the model's choice (log 2). So is when a
grant inside it is made (log 9). -/
def Obligations.ListStampsReached : Prop :=
  ∀ (k : Fin 8) (s : State), s.resetHeld = false →
    (∀ e n, (s.list k).state = .active → currentStep s k = some (.wait n) →
      (s.list k).expiry = some e → s.reaches e = true →
      exec (.waitExpiry k) s =
        .next (finishStep false k { s with tcu := { s.tcu with stamp := e } })) ∧
    ((s.list k).state ≠ .active ∨ (s.list k).expiry = none → exec (.waitExpiry k) s = .next s) ∧
    (∀ e i n, (s.list k).state = .active → currentStep s k = some (.await i n) →
      (s.list k).expiry = some e → s.reaches e = true →
      exec (.awaitTimeout k) s =
        .next (endRun false k .awaitTimeout { s with tcu := { s.tcu with stamp := e } })) ∧
    ((s.list k).state ≠ .active ∨ (s.list k).expiry = none → exec (.awaitTimeout k) s = .next s) ∧
    (∀ d, (s.list k).state = .resting → (s.list k).defn = some d →
      let rest := (s.list k).passStart + BitVec.ofNat 32 d.passPeriod
      s.reaches rest = true →
      exec (.restStamp k) s = .next (beginStep false k
        ({ s with tcu := { s.tcu with stamp := rest } }.updList k fun l =>
          { l with state := .active, stepIndex := 0, passStart := rest }))) ∧
    ((s.list k).state ≠ .resting → exec (.restStamp k) s = .next s)

/-- Beginning a step (R9): a CONVERT step clears the expiry stamp and claims, with the grant at once
where the converter is free and no event in progress makes its own; a WAIT step sets the expiry stamp to
the duration ahead; an AWAIT step 1,000 times its timeout ahead, or clears it for NONE. A run starts
(R11): ACTIVE with its progress and counters cleared and both start stamps the present stamp, the end
record kept, and step 0 begins. A list finishes a step (R10): the next step begins, or the pass ends with
the index back at 0. When a grant inside an event is made (`closing`) is the model's reading (log 9), and
the mark `edgeWaiting` is the model's own (log 10). -/
def Obligations.StepsAndRunsBegin : Prop :=
  ∀ (closing : Bool) (k : Fin 8) (s : State),
    let expiring := fun (e : Option Stamp) =>
      s.updList k fun l => { l with expiry := e, edgeWaiting := false }
    (∀ c g, currentStep s k = some (.convert c g) →
      beginStep closing k s = if closing = true then expiring none else makeGrant (expiring none)) ∧
    (∀ n, currentStep s k = some (.wait n) →
      beginStep closing k s = expiring (some (s.tcu.stamp + BitVec.ofNat 32 n))) ∧
    (∀ i n, currentStep s k = some (.await i (some n)) →
      beginStep closing k s = expiring (some (s.tcu.stamp + BitVec.ofNat 32 (1000 * n)))) ∧
    (∀ i, currentStep s k = some (.await i none) → beginStep closing k s = expiring none) ∧
    startRun closing k s = beginStep closing k (s.updList k fun l =>
      { defn := l.defn, state := .active, stepIndex := 0, passes := 0, runStart := s.tcu.stamp
        passStart := s.tcu.stamp, stopPending := false, triggerPending := false, inFlight := false
        expiry := none, missed := 0, overruns := 0, preemptions := 0, endRecord := l.endRecord
        edgeWaiting := l.edgeWaiting }) ∧
    ∀ d, (s.list k).defn = some d →
      ((s.list k).stepIndex + 1 < d.stepCount →
        finishStep closing k s = beginStep closing k (s.updList k fun l =>
          { l with expiry := none, edgeWaiting := false, stepIndex := l.stepIndex + 1 })) ∧
      (d.stepCount ≤ (s.list k).stepIndex + 1 →
        finishStep closing k s = endPass closing d k (s.updList k fun l =>
          { l with expiry := none, edgeWaiting := false, stepIndex := 0 }))

/-- A pass ends (R17, R18): the passes count on, LIST_PASS is raised where asked for; a stop that was
pending ends the run STOPPED; else the last pass ends it COMPLETED; else the next pass begins at once
without a period, or the list rests until its period is over, or it has overrun, is counted, and begins
the next pass at once. When a grant inside an event is made (`closing`) is the model's reading (log 9),
and the mark `edgeWaiting` is the model's own (log 10). -/
def Obligations.PassEnds : Prop :=
  ∀ (closing : Bool) (k : Fin 8) (d : ListDef) (s : State),
    let passes := if d.passCount = 0 then ((s.list k).passes + 1) % 65536 else (s.list k).passes + 1
    let counted := s.updList k fun l => { l with passes := passes }
    let noted : State := if d.notifyPass = true then
      { counted with nq := s.nq.raise s.tcu.stamp (.listPass k passes) } else counted
    let gone := (s.tcu.stamp - (s.list k).passStart).toNat
    endPass closing d k s =
      if (s.list k).stopPending = true then endRun closing k .stopped noted
      else if d.passCount ≠ 0 ∧ passes = d.passCount then endRun closing k .completed noted
      else if d.passPeriod = 0 then
        beginStep closing k (noted.updList k fun l => { l with passStart := s.tcu.stamp })
      else if gone < d.passPeriod then noted.updList k fun l => { l with state := .resting }
      else
        let overrun := noted.updList k fun l => { l with overruns := min (l.overruns + 1) 65535 }
        let told : State := if d.notifyPass = true then
          { overrun with nq := noted.nq.raise s.tcu.stamp (.listOverrun k passes (gone - d.passPeriod)) }
          else overrun
        beginStep closing k (told.updList k fun l => { l with passStart := s.tcu.stamp })

/-- A run ends (R20, R21): its conversion in flight is abandoned, the list is READY, or ARMED where a
COMPLETED run of a list that is not HOST rearms; the progress is cleared but for a trigger pending at a
COMPLETED end; the end record is written; LIST_END is raised where asked for and always for FIFO_FULL and
AWAIT_TIMEOUT; and after COMPLETED the LIST_DONE trigger is delivered and then a queued start taken. When
a grant inside an event is made (`closing`) is the model's reading (log 9), and the mark `edgeWaiting` is
the model's own (log 10). -/
def Obligations.RunEnds : Prop :=
  ∀ (closing : Bool) (k : Fin 8) (reason : EndReason) (d : ListDef) (s : State),
    (s.list k).defn = some d →
    let freed : State := if (s.list k).inFlight = true ∧ s.ca.ownedByList k = true then
      { s with ca := { s.ca with grant := none }, cv := { s.cv with state := .idle } } else s
    let ended := freed.updList k fun l =>
      { l with
        state := if reason = .completed ∧ d.rearm = true ∧ d.source ≠ .host then .armed else .ready
        stepIndex := 0, expiry := none, stopPending := false, inFlight := false, edgeWaiting := false
        triggerPending := l.triggerPending && reason == .completed
        endRecord := some (reason, s.tcu.stamp) }
    let told : State := if d.notifyEnd = true ∨ reason = .fifoFull ∨ reason = .awaitTimeout then
      { ended with nq := s.nq.raise s.tcu.stamp (.listEnd k reason (s.list k).passes (s.list k).missed
          (s.list k).overruns (s.list k).preemptions) } else ended
    closeRun k reason s = told ∧
    (reason ≠ .completed → endRun closing k reason s = told) ∧
    (reason = .completed →
      let chained := deliver closing (.listDone k) told
      endRun closing k reason s = if (chained.list k).triggerPending = true then
        startRun closing k (chained.updList k fun l => { l with triggerPending := false }) else chained)

/-- A trigger (R22, R23): nothing for a list whose definition names another source, and for one READY or
UNDEFINED; an ARMED list starts a run; a running one counts it missed while a stop is pending and by
IGNORE, ends RETRIGGERED and starts afresh by RESTART, with the grant after, and keeps one by QUEUE_ONE,
counting the next missed. A trigger goes to the lists one at a time in increasing order. When a grant
inside an event is made (`closing`) is the model's reading (log 9), and the mark `edgeWaiting` is the
model's own (log 10). -/
def Obligations.TriggerTaken : Prop :=
  (∀ (closing : Bool) (src : TriggerSource) (s : State),
    deliver closing src s = (List.finRange 8).foldl (fun t k => takeTrigger closing src k t) s) ∧
  ∀ (closing : Bool) (src : TriggerSource) (k : Fin 8) (s : State),
    ((∀ d, (s.list k).defn = some d → d.source ≠ src) → takeTrigger closing src k s = s) ∧
    ∀ d, (s.list k).defn = some d → d.source = src →
      let missed := s.updList k fun l => { l with missed := min (l.missed + 1) 65535 }
      let fresh := startRun true k (closeRun k .retriggered s)
      takeTrigger closing src k s = match (s.list k).state with
        | .undefined => s
        | .ready => s
        | .armed => startRun closing k s
        | _ =>
          if (s.list k).stopPending = true then missed
          else match d.policy with
            | .ignore => missed
            | .restart => if closing = true then fresh else makeGrant fresh
            | .queueOne => if (s.list k).triggerPending = true then missed
                else s.updList k fun l => { l with triggerPending := true }

/-- A record reaches its list (R12): disregarded where the in-flight flag is clear; else the flag is
cleared and the step finished, except that a dropped record of a stop-on-full list ends the run
FIFO_FULL, with the pass counted if the step was the last. When a grant inside an event is made
(`closing`) is the model's reading (log 9), and the mark `edgeWaiting` is the model's own (log 10). -/
def Obligations.RecordReachesList : Prop :=
  ∀ (k : Fin 8) (dropped : Bool) (s : State),
    ((s.list k).inFlight = false → recordToList k dropped s = s) ∧
    ∀ d, (s.list k).inFlight = true → (s.list k).defn = some d →
      let took := s.updList k fun l => { l with inFlight := false }
      let next := (s.list k).stepIndex + 1
      let stepped := took.updList k fun l => { l with stepIndex := next }
      let passes := if d.passCount = 0 then ((s.list k).passes + 1) % 65536 else (s.list k).passes + 1
      let passed := stepped.updList k fun l => { l with passes := passes }
      recordToList k dropped s =
        if dropped = true ∧ d.stopOnFull = true then
          endRun true k .fifoFull (if next < d.stepCount then stepped
            else if d.notifyPass = true then
              { passed with nq := s.nq.raise s.tcu.stamp (.listPass k passes) }
            else passed)
        else finishStep true k took

/-! ### Notices -/

/-- A notice raised (R129, R130, R131): appended undelivered with the next sequence where there is room;
else the first loss appends a NOTICES_LOST in the 32nd place with its record, and a further loss is
counted into that notice, wherever it stands, and into the record. -/
def Obligations.NoticeRaised : Prop :=
  ∀ (q : NoticeQueue) (now : Stamp) (b : NoticeBody),
    let following := if 65535 ≤ q.nextSeq then 1 else q.nextSeq + 1
    (q.hasLost = false ∧ q.notices.length < 31 ∨ q.hasLost = true ∧ q.notices.length < 32 →
      q.raise now b = { q with
        notices := q.notices ++ [{ seq := q.nextSeq, stamp := now, body := b, delivered := false }]
        nextSeq := following }) ∧
    (q.hasLost = false → 31 ≤ q.notices.length →
      q.raise now b =
        { notices := q.notices
            ++ [{ seq := q.nextSeq, stamp := now, body := .noticesLost 1 now, delivered := false }]
          nextSeq := following
          lost := some { lost := 1, first := now, carried := 0, firstUncarried := some now } }) ∧
    (q.hasLost = true → 32 ≤ q.notices.length →
      q.raise now b = { q with
        notices := q.notices.map fun n => match n.body with
          | .noticesLost c f => { n with body := .noticesLost (min (c + 1) 65535) f }
          | _ => n
        lost := q.lost.map fun x => { x with
          lost := min (x.lost + 1) 65535, firstUncarried := some (x.firstUncarried.getD now) } })

/-- POLL (R132 to R136): a maximum count of 0 or above 16 is refused FIELD 3; an acknowledgement of a
delivered notice removes it and all before it, and one that matches none removes nothing and is flagged;
the reply carries the oldest notices that fit, with the count queued and whether more are pending, and
they are then delivered, a NOTICES_LOST among them shown. -/
def Obligations.PollCarriesNotices : Prop :=
  ∀ (r : Req) (s : State), Hears .poll r s → r.body.length = 3 →
    let u := s.taken .poll r
    let ack := wordAt r.body 0
    let most := byteAt r.body 2
    (most = 0 ∨ 16 < most → exec (.poll r) s = .next (refuses .poll r s .field 3)) ∧
    (1 ≤ most → most ≤ 16 → ∃ (q : NoticeQueue) (unmatched : Bool) (n : Nat),
      (ack = 0 → q = s.nq ∧ unmatched = false) ∧
      (ack ≠ 0 → (∀ x ∈ s.nq.notices, x.delivered = true → x.seq ≠ ack) → q = s.nq ∧ unmatched = true) ∧
      (∀ before x after, ack ≠ 0 → s.nq.notices = before ++ x :: after → x.delivered = true →
        x.seq = ack → (∀ y ∈ before, y.delivered = true → y.seq ≠ ack) → unmatched = false ∧
        ((∀ y ∈ before ++ [x], y.isLost = false) → q = { s.nq with notices := after }) ∧
        ((∃ y ∈ before ++ [x], y.isLost = true) → ∀ l, s.nq.lost = some l →
          q = if l.carried < l.lost then
              { notices := after ++ [{ seq := s.nq.nextSeq, stamp := s.tcu.stamp, delivered := false
                                       body := .noticesLost (l.lost - l.carried)
                                         (l.firstUncarried.getD s.tcu.stamp) }]
                nextSeq := if 65535 ≤ s.nq.nextSeq then 1 else s.nq.nextSeq + 1
                lost := some { lost := l.lost - l.carried, first := l.firstUncarried.getD s.tcu.stamp
                               carried := 0
                               firstUncarried := some (l.firstUncarried.getD s.tcu.stamp) } }
            else { s.nq with notices := after, lost := none })) ∧
      n ≤ most ∧ n ≤ q.notices.length ∧ ((q.notices.take n).flatMap noticeBytes).length ≤ 238 ∧
      (n < most → n < q.notices.length → 238 < ((q.notices.take (n + 1)).flatMap noticeBytes).length) ∧
      exec (.poll r) s = .next (accepts .poll r s
        (u8 q.notices.length
          ++ [(if unmatched then 1 else 0) + (if n < q.notices.length then 2 else 0)]
          ++ (q.notices.take n).flatMap noticeBytes)
        { u with nq := { q with
            notices := (q.notices.take n).map (fun x => { x with delivered := true }) ++ q.notices.drop n
            lost := if (q.notices.take n).any Notice.isLost then
              q.lost.map fun l => { l with carried := l.lost, firstUncarried := none } else q.lost } }))

/-! ### Layouts -/

/-- A step record, an option group, a list definition and a watch definition that the rules allow read
back from the bytes they are sent as (R1, R5, R79, 12 §12.3, §12.4, §12.6). And any bytes in their place
are read field by field in order of offset: the first field that a rule forbids is refused with its
detail, one more than its offset and, where two fields disagree, the later of the two (R3, R7, R35, R49,
R91, R182); where none is, the value read has exactly the fields sent. -/
def Obligations.DefinitionsReadBack : Prop :=
  (∀ (x : StepRecord) (before after : List Byte),
    (match x with
      | .convert _ g => ∀ n, g.settle = some n → 1 ≤ n ∧ n ≤ 255
      | .wait n => 1 ≤ n ∧ n ≤ 65535
      | .await _ t => ∀ n, t = some n → 1 ≤ n ∧ n ≤ 65535) →
    parseStep (before ++ stepBytes x ++ after) before.length = .ok x) ∧
  (∀ (g : OptGroup) (before after : List Byte), (∀ n, g.settle = some n → 1 ≤ n ∧ n ≤ 255) →
    parseOptGroup (before ++ optGroupBytes g ++ after) before.length = .ok g) ∧
  (∀ (d : ListDef) (k : Fin 8), 1 ≤ d.stepCount → d.firstStep ≤ 127 → d.firstStep + d.stepCount ≤ 128 →
    d.source ≠ .listDone k → d.passCount ≤ 65535 →
    d.passPeriod = 0 ∨ (100 ≤ d.passPeriod ∧ d.passPeriod ≤ 1000000000) →
    parseListDef (u8 k.val ++ listDefBytes d) k = .ok d) ∧
  (∀ (d : WatchDef) (w : Fin 12), d.low < d.high → d.high ≤ 4095 → d.hysteresis ≤ (d.high - d.low) / 2 →
    1 ≤ d.confirm → d.confirm ≤ 15 → parseWatchDef (u8 w.val ++ watchDefBytes d) = .ok d) ∧
  (∀ (b : List Byte) (o : Nat),
    let settle := byteAt b o
    let averaging := byteAt b (o + 1)
    let codes := byteAt b (o + 2)
    let offending : Option Nat :=
      if codes.testBit 4 = true ∧ settle = 0 then some (o + 1)
      else if averaging ∉ [0, 1, 2, 4, 8, 16] then some (o + 2)
      else if codes % 4 = 3 ∨ codes / 4 % 4 = 3 then some (o + 3)
      else none
    (∀ n, offending = some n → parseOptGroup b o = .error n) ∧
    (offending = none → ∃ g, parseOptGroup b o = .ok g ∧
      g.settle = (if codes.testBit 4 = true then some settle else none) ∧
      averagingCode g.averaging = averaging ∧ modeCode g.mode = codes % 4 ∧
      checkCode g.check = codes / 4 % 4)) ∧
  (∀ (b : List Byte) (o : Nat),
    let word := wordAt b (o + 1)
    (byteAt b o / 64 = 0 →
      (∀ n, parseOptGroup b (o + 1) = .error n → parseStep b o = .error n) ∧
      ∀ g, parseOptGroup b (o + 1) = .ok g →
        ∃ c, c.val = byteAt b o % 16 ∧ parseStep b o = .ok (.convert c g)) ∧
    (byteAt b o / 64 = 1 → parseStep b o = if word = 0 then .error (o + 2) else .ok (.wait word)) ∧
    (byteAt b o / 64 = 2 → ∃ i, i.val = byteAt b o % 4 ∧
      parseStep b o = .ok (.await i (if word = 0 then none else some word))) ∧
    (byteAt b o / 64 = 3 → parseStep b o = .error (o + 1)) ∧
    parseSteps b o 0 = .ok [] ∧
    ∀ n, (∀ d, parseStep b o = .error d → parseSteps b o (n + 1) = .error d) ∧
      ∀ x, parseStep b o = .ok x → (∀ d, parseSteps b (o + 4) n = .error d →
          parseSteps b o (n + 1) = .error d) ∧
        ∀ rest, parseSteps b (o + 4) n = .ok rest → parseSteps b o (n + 1) = .ok (x :: rest)) ∧
  (∀ (b : List Byte) (k : Fin 8),
    let first := byteAt b 1
    let count := byteAt b 2
    let type := byteAt b 3
    let parameter := byteAt b 4
    let period := longAt b 7
    let flags := byteAt b 13
    let offending : Option Nat :=
      if 127 < first then some 2
      else if count = 0 ∨ 128 < first + count then some 3
      else if 4 < type then some 4
      else if type = 1 ∧ 3 < parameter ∨ type = 3 ∧ (11 < parameter % 16 ∨ parameter / 16 % 4 = 0) ∨
        type = 4 ∧ (7 < parameter ∨ parameter = k.val) then some 5
      else if 1 ≤ period ∧ period ≤ 99 ∨ 1000000000 < period then some 8
      else if 2 < byteAt b 11 then some 12
      else if 3 < byteAt b 12 then some 13
      else none
    (∀ n, offending = some n → parseListDef b k = .error n) ∧
    (offending = none → ∃ d, parseListDef b k = .ok d ∧
      d.firstStep = first ∧ d.stepCount = count ∧
      sourceBytes d.source = u8 type ++ u8 (if type = 0 ∨ type = 2 then 0
        else if type = 3 then parameter % 64 else parameter) ∧
      d.passCount = wordAt b 5 ∧ d.passPeriod = period ∧ d.policy.code = byteAt b 11 ∧
      d.level.val = byteAt b 12 ∧ d.preemptible = flags.testBit 0 ∧ d.toFifo = flags.testBit 1 ∧
      d.stopOnFull = flags.testBit 2 ∧ d.rearm = flags.testBit 3 ∧ d.notifyPass = flags.testBit 4 ∧
      d.notifyEnd = flags.testBit 5)) ∧
  ∀ b : List Byte,
    let low := wordAt b 2
    let high := wordAt b 4
    let hysteresis := wordAt b 6
    let confirm := byteAt b 8
    let bad := fun a : Nat => a.testBit 0 = true ∧ a / 32 % 4 ≠ 0 ∧ (a / 32 % 4 = 3 ∨ 3 < a / 4 % 8)
    let read := fun a : Nat => if a.testBit 0 = false then 0 else if a / 32 % 4 = 0 then a % 4 else a % 128
    let offending : Option Nat :=
      if 15 < byteAt b 1 then some 2
      else if 4095 < low then some 3
      else if 4095 < high ∨ high ≤ low then some 5
      else if (high - low) / 2 < hysteresis then some 7
      else if confirm = 0 ∨ 15 < confirm then some 9
      else if bad (byteAt b 9) then some 10
      else if bad (byteAt b 10) then some 11
      else if bad (byteAt b 11) then some 12
      else none
    (∀ n, offending = some n → parseWatchDef b = .error n) ∧
    (offending = none → ∃ d, parseWatchDef b = .ok d ∧
      d.channel.val = byteAt b 1 ∧ d.low = low ∧ d.high = high ∧ d.hysteresis = hysteresis ∧
      d.confirm = confirm ∧ watchActionByte d.onBelow = read (byteAt b 9) ∧
      watchActionByte d.onInside = read (byteAt b 10) ∧ watchActionByte d.onAbove = read (byteAt b 11))

/-! ### What every step keeps -/

/-- The state right after reset meets every invariant below. -/
def Obligations.ResetMeetsInvariants : Prop :=
  State.reset.Bounded ∧ State.reset.nq.Shaped ∧ State.reset.GrantMatchesConverter ∧
  State.reset.TicketsDiffer ∧ State.reset.ListsSound ∧ State.reset.QuietOutsideRun ∧
  State.reset.claimUnserved = false ∧ State.reset.ScheduleInOrder ∧ State.reset.LinesSafe ∧
  State.reset.NumbersInRange ∧ State.reset.WatchesSound

/-- Every step keeps the shape of the notice queue and of its lost-notice record (R129, R131). -/
def Obligations.StepKeepsNoticeQueueShape : Prop :=
  ∀ s t : State, s.nq.Shaped → step s = .next t → t.nq.Shaped

/-- No step makes a store hold more than its capacity (R33, R69, R103, R125); every step keeps the
converter working exactly while the grant record is not NONE (R31), the ticket numbers in use all
different (R33), the next ticket number from 1 to 127 and the next handle from 1 to 255 (R30, R114), and
every defined watch within the ranges of its definition and of its running state (R79, R80). -/
def Obligations.StepKeepsBoundsGrantAndTickets : Prop :=
  (∀ s t : State, s.Bounded → step s = .next t → t.Bounded) ∧
  (∀ s t : State, s.GrantMatchesConverter → step s = .next t → t.GrantMatchesConverter) ∧
  (∀ s t : State, s.TicketsDiffer → step s = .next t → t.TicketsDiffer) ∧
  (∀ s t : State, s.NumbersInRange → step s = .next t → t.NumbersInRange) ∧
  ∀ s t : State, s.WatchesSound → step s = .next t → t.WatchesSound

/-- Every step keeps how the lists stand (R5, R6, R7, R17, R31), and keeps the node quiet outside RUN: no
list ARMED, ACTIVE or RESTING, no schedule entry, no silence timer (R29, R125, R175). -/
def Obligations.StepKeepsListsSoundAndQuiet : Prop :=
  (∀ s t : State, s.ListsSound → step s = .next t → t.ListsSound) ∧
  ∀ s t : State, s.ListsSound → s.QuietOutsideRun → step s = .next t → t.QuietOutsideRun

/-- No step leaves the converter IDLE and unowned with a claim standing (R36). -/
def Obligations.StepServesClaims : Prop :=
  ∀ s t : State, s.ListsSound → s.GrantMatchesConverter → s.claimUnserved = false →
    step s = .next t → t.claimUnserved = false

/-- Every step keeps the schedule table in its firing order, ahead of the present stamp, with no handle
shared (R114, R115, R125). -/
def Obligations.StepKeepsScheduleInOrder : Prop :=
  ∀ s t : State, s.ScheduleInOrder → step s = .next t → t.ScheduleInOrder

/-- While the node is in SAFE every step leaves every line at its safe level (R112), and SAFE is entered
only from RUN, by the expiry of the silence timer (R171, R176). -/
def Obligations.SafeHoldsLines : Prop :=
  (∀ s t : State, s.QuietOutsideRun → s.LinesSafe → step s = .next t → t.LinesSafe) ∧
  ∀ (i : Instr) (s t : State), s.QuietOutsideRun → exec i s = .next t → t.nc.state = .safe →
    s.nc.state ≠ .safe → i = .silenceExpiry ∧ s.nc.state = .run ∧ s.nc.timer.isSome = true

/-- Only a completing conversion gives out a result sequence, one at a time: a SAMPLE_END that ends the
last sample of a conversion that an owner holds. Nothing else but a reset moves the next one (R64, R65).
-/
def Obligations.SequencesComeFromCompletions : Prop :=
  ∀ (i : Instr) (s t : State), exec i s = .next t → t.rs.nextSeq ≠ s.rs.nextSeq →
    (∃ level c g, i = .sampleEnd level ∧ s.resetHeld = false ∧ s.cv.state = .sampling c ∧
      s.ca.grant = some g ∧ c.options.averaging.count ≤ c.samples + 1 ∧
      s.reaches c.phaseEnd = true ∧ t.rs.nextSeq = s.rs.nextSeq + 1) ∨
    (t.rs.nextSeq = 1 ∧ t.tcu.stamp = 0 ∧ ((∃ straps, i = .por straps ∨ i = .pinRelease straps) ∨
      i = .pinReset ∨ (i = .sendingEnd ∧ s.nc.restartPending = true)))
end

