-- ==== Sys2Proof/Laws/State.lean ====
section
/-! SUPPORT. One lemma for each field after each named update of State, and reading a table entry after
the update of one. Later proofs cite these and never unfold an update. -/

namespace Sys2Proof.Machine

/-! ### updList -/

@[simp] theorem State.updList_ca (s : State) (k : Fin 8) (f : ListRecord → ListRecord) : (s.updList k f).ca = s.ca := rfl
@[simp] theorem State.updList_cv (s : State) (k : Fin 8) (f : ListRecord → ListRecord) : (s.updList k f).cv = s.cv := rfl
@[simp] theorem State.updList_rs (s : State) (k : Fin 8) (f : ListRecord → ListRecord) : (s.updList k f).rs = s.rs := rfl
@[simp] theorem State.updList_wu (s : State) (k : Fin 8) (f : ListRecord → ListRecord) : (s.updList k f).wu = s.wu := rfl
@[simp] theorem State.updList_tcu (s : State) (k : Fin 8) (f : ListRecord → ListRecord) : (s.updList k f).tcu = s.tcu := rfl
@[simp] theorem State.updList_ou (s : State) (k : Fin 8) (f : ListRecord → ListRecord) : (s.updList k f).ou = s.ou := rfl
@[simp] theorem State.updList_su (s : State) (k : Fin 8) (f : ListRecord → ListRecord) : (s.updList k f).su = s.su := rfl
@[simp] theorem State.updList_nq (s : State) (k : Fin 8) (f : ListRecord → ListRecord) : (s.updList k f).nq = s.nq := rfl
@[simp] theorem State.updList_rh (s : State) (k : Fin 8) (f : ListRecord → ListRecord) : (s.updList k f).rh = s.rh := rfl
@[simp] theorem State.updList_li (s : State) (k : Fin 8) (f : ListRecord → ListRecord) : (s.updList k f).li = s.li := rfl
@[simp] theorem State.updList_nc (s : State) (k : Fin 8) (f : ListRecord → ListRecord) : (s.updList k f).nc = s.nc := rfl
@[simp] theorem State.updList_resetHeld (s : State) (k : Fin 8) (f : ListRecord → ListRecord) : (s.updList k f).resetHeld = s.resetHeld := rfl
@[simp] theorem State.updList_free (s : State) (k : Fin 8) (f : ListRecord → ListRecord) : (s.updList k f).free = s.free := rfl
@[simp] theorem State.updList_pending (s : State) (k : Fin 8) (f : ListRecord → ListRecord) : (s.updList k f).pending = s.pending := rfl
@[simp] theorem State.updList_se_steps (s : State) (k : Fin 8) (f : ListRecord → ListRecord) :
    (s.updList k f).se.steps = s.se.steps := rfl
@[simp] theorem State.updList_se_lists (s : State) (k : Fin 8) (f : ListRecord → ListRecord) :
    (s.updList k f).se.lists = s.se.lists.set k (f (s.list k)) := rfl

/-! ### updLine -/

@[simp] theorem State.updLine_se (s : State) (k : Fin 4) (f : OutputLine → OutputLine) : (s.updLine k f).se = s.se := rfl
@[simp] theorem State.updLine_ca (s : State) (k : Fin 4) (f : OutputLine → OutputLine) : (s.updLine k f).ca = s.ca := rfl
@[simp] theorem State.updLine_cv (s : State) (k : Fin 4) (f : OutputLine → OutputLine) : (s.updLine k f).cv = s.cv := rfl
@[simp] theorem State.updLine_rs (s : State) (k : Fin 4) (f : OutputLine → OutputLine) : (s.updLine k f).rs = s.rs := rfl
@[simp] theorem State.updLine_wu (s : State) (k : Fin 4) (f : OutputLine → OutputLine) : (s.updLine k f).wu = s.wu := rfl
@[simp] theorem State.updLine_tcu (s : State) (k : Fin 4) (f : OutputLine → OutputLine) : (s.updLine k f).tcu = s.tcu := rfl
@[simp] theorem State.updLine_su (s : State) (k : Fin 4) (f : OutputLine → OutputLine) : (s.updLine k f).su = s.su := rfl
@[simp] theorem State.updLine_nq (s : State) (k : Fin 4) (f : OutputLine → OutputLine) : (s.updLine k f).nq = s.nq := rfl
@[simp] theorem State.updLine_rh (s : State) (k : Fin 4) (f : OutputLine → OutputLine) : (s.updLine k f).rh = s.rh := rfl
@[simp] theorem State.updLine_li (s : State) (k : Fin 4) (f : OutputLine → OutputLine) : (s.updLine k f).li = s.li := rfl
@[simp] theorem State.updLine_nc (s : State) (k : Fin 4) (f : OutputLine → OutputLine) : (s.updLine k f).nc = s.nc := rfl
@[simp] theorem State.updLine_resetHeld (s : State) (k : Fin 4) (f : OutputLine → OutputLine) : (s.updLine k f).resetHeld = s.resetHeld := rfl
@[simp] theorem State.updLine_free (s : State) (k : Fin 4) (f : OutputLine → OutputLine) : (s.updLine k f).free = s.free := rfl
@[simp] theorem State.updLine_pending (s : State) (k : Fin 4) (f : OutputLine → OutputLine) : (s.updLine k f).pending = s.pending := rfl
@[simp] theorem State.updLine_ou_lines (s : State) (k : Fin 4) (f : OutputLine → OutputLine) :
    (s.updLine k f).ou.lines = s.ou.lines.set k (f (s.line k)) := rfl

/-! ### setWatch -/

@[simp] theorem State.setWatch_se (s : State) (w : Fin 12) (e : Option WatchEntry) : (s.setWatch w e).se = s.se := rfl
@[simp] theorem State.setWatch_ca (s : State) (w : Fin 12) (e : Option WatchEntry) : (s.setWatch w e).ca = s.ca := rfl
@[simp] theorem State.setWatch_cv (s : State) (w : Fin 12) (e : Option WatchEntry) : (s.setWatch w e).cv = s.cv := rfl
@[simp] theorem State.setWatch_rs (s : State) (w : Fin 12) (e : Option WatchEntry) : (s.setWatch w e).rs = s.rs := rfl
@[simp] theorem State.setWatch_tcu (s : State) (w : Fin 12) (e : Option WatchEntry) : (s.setWatch w e).tcu = s.tcu := rfl
@[simp] theorem State.setWatch_ou (s : State) (w : Fin 12) (e : Option WatchEntry) : (s.setWatch w e).ou = s.ou := rfl
@[simp] theorem State.setWatch_su (s : State) (w : Fin 12) (e : Option WatchEntry) : (s.setWatch w e).su = s.su := rfl
@[simp] theorem State.setWatch_nq (s : State) (w : Fin 12) (e : Option WatchEntry) : (s.setWatch w e).nq = s.nq := rfl
@[simp] theorem State.setWatch_rh (s : State) (w : Fin 12) (e : Option WatchEntry) : (s.setWatch w e).rh = s.rh := rfl
@[simp] theorem State.setWatch_li (s : State) (w : Fin 12) (e : Option WatchEntry) : (s.setWatch w e).li = s.li := rfl
@[simp] theorem State.setWatch_nc (s : State) (w : Fin 12) (e : Option WatchEntry) : (s.setWatch w e).nc = s.nc := rfl
@[simp] theorem State.setWatch_resetHeld (s : State) (w : Fin 12) (e : Option WatchEntry) : (s.setWatch w e).resetHeld = s.resetHeld := rfl
@[simp] theorem State.setWatch_free (s : State) (w : Fin 12) (e : Option WatchEntry) : (s.setWatch w e).free = s.free := rfl
@[simp] theorem State.setWatch_pending (s : State) (w : Fin 12) (e : Option WatchEntry) : (s.setWatch w e).pending = s.pending := rfl
@[simp] theorem State.setWatch_wu_watches (s : State) (w : Fin 12) (e : Option WatchEntry) :
    (s.setWatch w e).wu.watches = s.wu.watches.set w e := rfl

/-! ### updInput -/

@[simp] theorem State.updInput_se (s : State) (k : Fin 4) (f : CaptureInput → CaptureInput) : (s.updInput k f).se = s.se := rfl
@[simp] theorem State.updInput_ca (s : State) (k : Fin 4) (f : CaptureInput → CaptureInput) : (s.updInput k f).ca = s.ca := rfl
@[simp] theorem State.updInput_cv (s : State) (k : Fin 4) (f : CaptureInput → CaptureInput) : (s.updInput k f).cv = s.cv := rfl
@[simp] theorem State.updInput_rs (s : State) (k : Fin 4) (f : CaptureInput → CaptureInput) : (s.updInput k f).rs = s.rs := rfl
@[simp] theorem State.updInput_wu (s : State) (k : Fin 4) (f : CaptureInput → CaptureInput) : (s.updInput k f).wu = s.wu := rfl
@[simp] theorem State.updInput_ou (s : State) (k : Fin 4) (f : CaptureInput → CaptureInput) : (s.updInput k f).ou = s.ou := rfl
@[simp] theorem State.updInput_su (s : State) (k : Fin 4) (f : CaptureInput → CaptureInput) : (s.updInput k f).su = s.su := rfl
@[simp] theorem State.updInput_nq (s : State) (k : Fin 4) (f : CaptureInput → CaptureInput) : (s.updInput k f).nq = s.nq := rfl
@[simp] theorem State.updInput_rh (s : State) (k : Fin 4) (f : CaptureInput → CaptureInput) : (s.updInput k f).rh = s.rh := rfl
@[simp] theorem State.updInput_li (s : State) (k : Fin 4) (f : CaptureInput → CaptureInput) : (s.updInput k f).li = s.li := rfl
@[simp] theorem State.updInput_nc (s : State) (k : Fin 4) (f : CaptureInput → CaptureInput) : (s.updInput k f).nc = s.nc := rfl
@[simp] theorem State.updInput_resetHeld (s : State) (k : Fin 4) (f : CaptureInput → CaptureInput) : (s.updInput k f).resetHeld = s.resetHeld := rfl
@[simp] theorem State.updInput_free (s : State) (k : Fin 4) (f : CaptureInput → CaptureInput) : (s.updInput k f).free = s.free := rfl
@[simp] theorem State.updInput_pending (s : State) (k : Fin 4) (f : CaptureInput → CaptureInput) : (s.updInput k f).pending = s.pending := rfl
@[simp] theorem State.updInput_tcu_stamp (s : State) (k : Fin 4) (f : CaptureInput → CaptureInput) :
    (s.updInput k f).tcu.stamp = s.tcu.stamp := rfl
@[simp] theorem State.updInput_tcu_inputs (s : State) (k : Fin 4) (f : CaptureInput → CaptureInput) :
    (s.updInput k f).tcu.inputs = s.tcu.inputs.set k (f (s.input k)) := rfl
@[simp] theorem State.updInput_tcu_pins (s : State) (k : Fin 4) (f : CaptureInput → CaptureInput) :
    (s.updInput k f).tcu.pins = s.tcu.pins := rfl
@[simp] theorem State.updInput_tcu_log (s : State) (k : Fin 4) (f : CaptureInput → CaptureInput) :
    (s.updInput k f).tcu.log = s.tcu.log := rfl
@[simp] theorem State.updInput_tcu_dropped (s : State) (k : Fin 4) (f : CaptureInput → CaptureInput) :
    (s.updInput k f).tcu.dropped = s.tcu.dropped := rfl
@[simp] theorem State.updInput_tcu_overflowArmed (s : State) (k : Fin 4) (f : CaptureInput → CaptureInput) :
    (s.updInput k f).tcu.overflowArmed = s.tcu.overflowArmed := rfl

/-! ### raise -/

@[simp] theorem State.raise_se (s : State) (b : NoticeBody) : (s.raise b).se = s.se := rfl
@[simp] theorem State.raise_ca (s : State) (b : NoticeBody) : (s.raise b).ca = s.ca := rfl
@[simp] theorem State.raise_cv (s : State) (b : NoticeBody) : (s.raise b).cv = s.cv := rfl
@[simp] theorem State.raise_rs (s : State) (b : NoticeBody) : (s.raise b).rs = s.rs := rfl
@[simp] theorem State.raise_wu (s : State) (b : NoticeBody) : (s.raise b).wu = s.wu := rfl
@[simp] theorem State.raise_tcu (s : State) (b : NoticeBody) : (s.raise b).tcu = s.tcu := rfl
@[simp] theorem State.raise_ou (s : State) (b : NoticeBody) : (s.raise b).ou = s.ou := rfl
@[simp] theorem State.raise_su (s : State) (b : NoticeBody) : (s.raise b).su = s.su := rfl
@[simp] theorem State.raise_rh (s : State) (b : NoticeBody) : (s.raise b).rh = s.rh := rfl
@[simp] theorem State.raise_li (s : State) (b : NoticeBody) : (s.raise b).li = s.li := rfl
@[simp] theorem State.raise_nc (s : State) (b : NoticeBody) : (s.raise b).nc = s.nc := rfl
@[simp] theorem State.raise_resetHeld (s : State) (b : NoticeBody) : (s.raise b).resetHeld = s.resetHeld := rfl
@[simp] theorem State.raise_free (s : State) (b : NoticeBody) : (s.raise b).free = s.free := rfl
@[simp] theorem State.raise_pending (s : State) (b : NoticeBody) : (s.raise b).pending = s.pending := rfl
@[simp] theorem State.raise_nq (s : State) (b : NoticeBody) :
    (s.raise b).nq = s.nq.raise s.now b := rfl

/-! ### writeLine -/

@[simp] theorem State.writeLine_se (s : State) (k : Fin 4) (v : Level) (x : LineSource) : (s.writeLine k v x).se = s.se := rfl
@[simp] theorem State.writeLine_ca (s : State) (k : Fin 4) (v : Level) (x : LineSource) : (s.writeLine k v x).ca = s.ca := rfl
@[simp] theorem State.writeLine_cv (s : State) (k : Fin 4) (v : Level) (x : LineSource) : (s.writeLine k v x).cv = s.cv := rfl
@[simp] theorem State.writeLine_rs (s : State) (k : Fin 4) (v : Level) (x : LineSource) : (s.writeLine k v x).rs = s.rs := rfl
@[simp] theorem State.writeLine_wu (s : State) (k : Fin 4) (v : Level) (x : LineSource) : (s.writeLine k v x).wu = s.wu := rfl
@[simp] theorem State.writeLine_tcu (s : State) (k : Fin 4) (v : Level) (x : LineSource) : (s.writeLine k v x).tcu = s.tcu := rfl
@[simp] theorem State.writeLine_su (s : State) (k : Fin 4) (v : Level) (x : LineSource) : (s.writeLine k v x).su = s.su := rfl
@[simp] theorem State.writeLine_nq (s : State) (k : Fin 4) (v : Level) (x : LineSource) : (s.writeLine k v x).nq = s.nq := rfl
@[simp] theorem State.writeLine_rh (s : State) (k : Fin 4) (v : Level) (x : LineSource) : (s.writeLine k v x).rh = s.rh := rfl
@[simp] theorem State.writeLine_li (s : State) (k : Fin 4) (v : Level) (x : LineSource) : (s.writeLine k v x).li = s.li := rfl
@[simp] theorem State.writeLine_nc (s : State) (k : Fin 4) (v : Level) (x : LineSource) : (s.writeLine k v x).nc = s.nc := rfl
@[simp] theorem State.writeLine_resetHeld (s : State) (k : Fin 4) (v : Level) (x : LineSource) : (s.writeLine k v x).resetHeld = s.resetHeld := rfl
@[simp] theorem State.writeLine_free (s : State) (k : Fin 4) (v : Level) (x : LineSource) : (s.writeLine k v x).free = s.free := rfl
@[simp] theorem State.writeLine_pending (s : State) (k : Fin 4) (v : Level) (x : LineSource) : (s.writeLine k v x).pending = s.pending := rfl
@[simp] theorem State.writeLine_ou_lines (s : State) (k : Fin 4) (v : Level) (x : LineSource) :
    (s.writeLine k v x).ou.lines = s.ou.lines.set k { s.line k with level := v, source := x, stamp := s.now } := rfl

/-! ### advance -/

@[simp] theorem State.advance_se (s : State) (d : Stamp) : (s.advance d).se = s.se := rfl
@[simp] theorem State.advance_ca (s : State) (d : Stamp) : (s.advance d).ca = s.ca := rfl
@[simp] theorem State.advance_cv (s : State) (d : Stamp) : (s.advance d).cv = s.cv := rfl
@[simp] theorem State.advance_rs (s : State) (d : Stamp) : (s.advance d).rs = s.rs := rfl
@[simp] theorem State.advance_wu (s : State) (d : Stamp) : (s.advance d).wu = s.wu := rfl
@[simp] theorem State.advance_ou (s : State) (d : Stamp) : (s.advance d).ou = s.ou := rfl
@[simp] theorem State.advance_su (s : State) (d : Stamp) : (s.advance d).su = s.su := rfl
@[simp] theorem State.advance_nq (s : State) (d : Stamp) : (s.advance d).nq = s.nq := rfl
@[simp] theorem State.advance_rh (s : State) (d : Stamp) : (s.advance d).rh = s.rh := rfl
@[simp] theorem State.advance_li (s : State) (d : Stamp) : (s.advance d).li = s.li := rfl
@[simp] theorem State.advance_nc (s : State) (d : Stamp) : (s.advance d).nc = s.nc := rfl
@[simp] theorem State.advance_resetHeld (s : State) (d : Stamp) : (s.advance d).resetHeld = s.resetHeld := rfl
@[simp] theorem State.advance_free (s : State) (d : Stamp) : (s.advance d).free = s.free := rfl
@[simp] theorem State.advance_pending (s : State) (d : Stamp) : (s.advance d).pending = s.pending := rfl
@[simp] theorem State.advance_tcu_stamp (s : State) (d : Stamp) :
    (s.advance d).tcu.stamp = d := rfl
@[simp] theorem State.advance_tcu_inputs (s : State) (d : Stamp) :
    (s.advance d).tcu.inputs = s.tcu.inputs := rfl
@[simp] theorem State.advance_tcu_pins (s : State) (d : Stamp) :
    (s.advance d).tcu.pins = s.tcu.pins := rfl
@[simp] theorem State.advance_tcu_log (s : State) (d : Stamp) :
    (s.advance d).tcu.log = s.tcu.log := rfl
@[simp] theorem State.advance_tcu_dropped (s : State) (d : Stamp) :
    (s.advance d).tcu.dropped = s.tcu.dropped := rfl
@[simp] theorem State.advance_tcu_overflowArmed (s : State) (d : Stamp) :
    (s.advance d).tcu.overflowArmed = s.tcu.overflowArmed := rfl

/-! ### setPin -/

@[simp] theorem State.setPin_se (s : State) (k : Fin 4) (v : Level) : (s.setPin k v).se = s.se := rfl
@[simp] theorem State.setPin_ca (s : State) (k : Fin 4) (v : Level) : (s.setPin k v).ca = s.ca := rfl
@[simp] theorem State.setPin_cv (s : State) (k : Fin 4) (v : Level) : (s.setPin k v).cv = s.cv := rfl
@[simp] theorem State.setPin_rs (s : State) (k : Fin 4) (v : Level) : (s.setPin k v).rs = s.rs := rfl
@[simp] theorem State.setPin_wu (s : State) (k : Fin 4) (v : Level) : (s.setPin k v).wu = s.wu := rfl
@[simp] theorem State.setPin_ou (s : State) (k : Fin 4) (v : Level) : (s.setPin k v).ou = s.ou := rfl
@[simp] theorem State.setPin_su (s : State) (k : Fin 4) (v : Level) : (s.setPin k v).su = s.su := rfl
@[simp] theorem State.setPin_nq (s : State) (k : Fin 4) (v : Level) : (s.setPin k v).nq = s.nq := rfl
@[simp] theorem State.setPin_rh (s : State) (k : Fin 4) (v : Level) : (s.setPin k v).rh = s.rh := rfl
@[simp] theorem State.setPin_li (s : State) (k : Fin 4) (v : Level) : (s.setPin k v).li = s.li := rfl
@[simp] theorem State.setPin_nc (s : State) (k : Fin 4) (v : Level) : (s.setPin k v).nc = s.nc := rfl
@[simp] theorem State.setPin_resetHeld (s : State) (k : Fin 4) (v : Level) : (s.setPin k v).resetHeld = s.resetHeld := rfl
@[simp] theorem State.setPin_free (s : State) (k : Fin 4) (v : Level) : (s.setPin k v).free = s.free := rfl
@[simp] theorem State.setPin_pending (s : State) (k : Fin 4) (v : Level) : (s.setPin k v).pending = s.pending := rfl
@[simp] theorem State.setPin_tcu_stamp (s : State) (k : Fin 4) (v : Level) :
    (s.setPin k v).tcu.stamp = s.tcu.stamp := rfl
@[simp] theorem State.setPin_tcu_inputs (s : State) (k : Fin 4) (v : Level) :
    (s.setPin k v).tcu.inputs = s.tcu.inputs := rfl
@[simp] theorem State.setPin_tcu_pins (s : State) (k : Fin 4) (v : Level) :
    (s.setPin k v).tcu.pins = s.tcu.pins.set k v := rfl
@[simp] theorem State.setPin_tcu_log (s : State) (k : Fin 4) (v : Level) :
    (s.setPin k v).tcu.log = s.tcu.log := rfl
@[simp] theorem State.setPin_tcu_dropped (s : State) (k : Fin 4) (v : Level) :
    (s.setPin k v).tcu.dropped = s.tcu.dropped := rfl
@[simp] theorem State.setPin_tcu_overflowArmed (s : State) (k : Fin 4) (v : Level) :
    (s.setPin k v).tcu.overflowArmed = s.tcu.overflowArmed := rfl

/-! ### setConverter -/

@[simp] theorem State.setConverter_se (s : State) (x : ConverterState) : (s.setConverter x).se = s.se := rfl
@[simp] theorem State.setConverter_ca (s : State) (x : ConverterState) : (s.setConverter x).ca = s.ca := rfl
@[simp] theorem State.setConverter_rs (s : State) (x : ConverterState) : (s.setConverter x).rs = s.rs := rfl
@[simp] theorem State.setConverter_wu (s : State) (x : ConverterState) : (s.setConverter x).wu = s.wu := rfl
@[simp] theorem State.setConverter_tcu (s : State) (x : ConverterState) : (s.setConverter x).tcu = s.tcu := rfl
@[simp] theorem State.setConverter_ou (s : State) (x : ConverterState) : (s.setConverter x).ou = s.ou := rfl
@[simp] theorem State.setConverter_su (s : State) (x : ConverterState) : (s.setConverter x).su = s.su := rfl
@[simp] theorem State.setConverter_nq (s : State) (x : ConverterState) : (s.setConverter x).nq = s.nq := rfl
@[simp] theorem State.setConverter_rh (s : State) (x : ConverterState) : (s.setConverter x).rh = s.rh := rfl
@[simp] theorem State.setConverter_li (s : State) (x : ConverterState) : (s.setConverter x).li = s.li := rfl
@[simp] theorem State.setConverter_nc (s : State) (x : ConverterState) : (s.setConverter x).nc = s.nc := rfl
@[simp] theorem State.setConverter_resetHeld (s : State) (x : ConverterState) : (s.setConverter x).resetHeld = s.resetHeld := rfl
@[simp] theorem State.setConverter_free (s : State) (x : ConverterState) : (s.setConverter x).free = s.free := rfl
@[simp] theorem State.setConverter_pending (s : State) (x : ConverterState) : (s.setConverter x).pending = s.pending := rfl
@[simp] theorem State.setConverter_cv_state (s : State) (x : ConverterState) :
    (s.setConverter x).cv.state = x := rfl
@[simp] theorem State.setConverter_cv_settings (s : State) (x : ConverterState) :
    (s.setConverter x).cv.settings = s.cv.settings := rfl

/-! ### setTable -/

@[simp] theorem State.setTable_se (s : State) (t : List ScheduleEntry) : (s.setTable t).se = s.se := rfl
@[simp] theorem State.setTable_ca (s : State) (t : List ScheduleEntry) : (s.setTable t).ca = s.ca := rfl
@[simp] theorem State.setTable_cv (s : State) (t : List ScheduleEntry) : (s.setTable t).cv = s.cv := rfl
@[simp] theorem State.setTable_rs (s : State) (t : List ScheduleEntry) : (s.setTable t).rs = s.rs := rfl
@[simp] theorem State.setTable_wu (s : State) (t : List ScheduleEntry) : (s.setTable t).wu = s.wu := rfl
@[simp] theorem State.setTable_tcu (s : State) (t : List ScheduleEntry) : (s.setTable t).tcu = s.tcu := rfl
@[simp] theorem State.setTable_ou (s : State) (t : List ScheduleEntry) : (s.setTable t).ou = s.ou := rfl
@[simp] theorem State.setTable_nq (s : State) (t : List ScheduleEntry) : (s.setTable t).nq = s.nq := rfl
@[simp] theorem State.setTable_rh (s : State) (t : List ScheduleEntry) : (s.setTable t).rh = s.rh := rfl
@[simp] theorem State.setTable_li (s : State) (t : List ScheduleEntry) : (s.setTable t).li = s.li := rfl
@[simp] theorem State.setTable_nc (s : State) (t : List ScheduleEntry) : (s.setTable t).nc = s.nc := rfl
@[simp] theorem State.setTable_resetHeld (s : State) (t : List ScheduleEntry) : (s.setTable t).resetHeld = s.resetHeld := rfl
@[simp] theorem State.setTable_free (s : State) (t : List ScheduleEntry) : (s.setTable t).free = s.free := rfl
@[simp] theorem State.setTable_pending (s : State) (t : List ScheduleEntry) : (s.setTable t).pending = s.pending := rfl
@[simp] theorem State.setTable_su_table (s : State) (t : List ScheduleEntry) :
    (s.setTable t).su.table = t := rfl
@[simp] theorem State.setTable_su_nextHandle (s : State) (t : List ScheduleEntry) :
    (s.setTable t).su.nextHandle = s.su.nextHandle := rfl

/-! ### hold -/

@[simp] theorem State.hold_se (s : State) (h : Option (Frame × Phase)) : (s.hold h).se = s.se := rfl
@[simp] theorem State.hold_ca (s : State) (h : Option (Frame × Phase)) : (s.hold h).ca = s.ca := rfl
@[simp] theorem State.hold_cv (s : State) (h : Option (Frame × Phase)) : (s.hold h).cv = s.cv := rfl
@[simp] theorem State.hold_rs (s : State) (h : Option (Frame × Phase)) : (s.hold h).rs = s.rs := rfl
@[simp] theorem State.hold_wu (s : State) (h : Option (Frame × Phase)) : (s.hold h).wu = s.wu := rfl
@[simp] theorem State.hold_tcu (s : State) (h : Option (Frame × Phase)) : (s.hold h).tcu = s.tcu := rfl
@[simp] theorem State.hold_ou (s : State) (h : Option (Frame × Phase)) : (s.hold h).ou = s.ou := rfl
@[simp] theorem State.hold_su (s : State) (h : Option (Frame × Phase)) : (s.hold h).su = s.su := rfl
@[simp] theorem State.hold_nq (s : State) (h : Option (Frame × Phase)) : (s.hold h).nq = s.nq := rfl
@[simp] theorem State.hold_li (s : State) (h : Option (Frame × Phase)) : (s.hold h).li = s.li := rfl
@[simp] theorem State.hold_nc (s : State) (h : Option (Frame × Phase)) : (s.hold h).nc = s.nc := rfl
@[simp] theorem State.hold_resetHeld (s : State) (h : Option (Frame × Phase)) : (s.hold h).resetHeld = s.resetHeld := rfl
@[simp] theorem State.hold_free (s : State) (h : Option (Frame × Phase)) : (s.hold h).free = s.free := rfl
@[simp] theorem State.hold_pending (s : State) (h : Option (Frame × Phase)) : (s.hold h).pending = s.pending := rfl
@[simp] theorem State.hold_rh_inHand (s : State) (h : Option (Frame × Phase)) :
    (s.hold h).rh.inHand = h := rfl
@[simp] theorem State.hold_rh_cache (s : State) (h : Option (Frame × Phase)) :
    (s.hold h).rh.cache = s.rh.cache := rfl

/-! ### cache -/

@[simp] theorem State.cache_se (s : State) (f reply : Frame) : (s.cache f reply).se = s.se := rfl
@[simp] theorem State.cache_ca (s : State) (f reply : Frame) : (s.cache f reply).ca = s.ca := rfl
@[simp] theorem State.cache_cv (s : State) (f reply : Frame) : (s.cache f reply).cv = s.cv := rfl
@[simp] theorem State.cache_rs (s : State) (f reply : Frame) : (s.cache f reply).rs = s.rs := rfl
@[simp] theorem State.cache_wu (s : State) (f reply : Frame) : (s.cache f reply).wu = s.wu := rfl
@[simp] theorem State.cache_tcu (s : State) (f reply : Frame) : (s.cache f reply).tcu = s.tcu := rfl
@[simp] theorem State.cache_ou (s : State) (f reply : Frame) : (s.cache f reply).ou = s.ou := rfl
@[simp] theorem State.cache_su (s : State) (f reply : Frame) : (s.cache f reply).su = s.su := rfl
@[simp] theorem State.cache_nq (s : State) (f reply : Frame) : (s.cache f reply).nq = s.nq := rfl
@[simp] theorem State.cache_li (s : State) (f reply : Frame) : (s.cache f reply).li = s.li := rfl
@[simp] theorem State.cache_nc (s : State) (f reply : Frame) : (s.cache f reply).nc = s.nc := rfl
@[simp] theorem State.cache_resetHeld (s : State) (f reply : Frame) : (s.cache f reply).resetHeld = s.resetHeld := rfl
@[simp] theorem State.cache_free (s : State) (f reply : Frame) : (s.cache f reply).free = s.free := rfl
@[simp] theorem State.cache_pending (s : State) (f reply : Frame) : (s.cache f reply).pending = s.pending := rfl
@[simp] theorem State.cache_rh_inHand (s : State) (f reply : Frame) :
    (s.cache f reply).rh.inHand = s.rh.inHand := rfl
@[simp] theorem State.cache_rh_cache (s : State) (f reply : Frame) :
    (s.cache f reply).rh.cache = some { seq := f.seq, crc := f.crc, reply := reply } := rfl

/-! ### count -/

@[simp] theorem State.count_se (s : State) (f : LineCounters → LineCounters) : (s.count f).se = s.se := rfl
@[simp] theorem State.count_ca (s : State) (f : LineCounters → LineCounters) : (s.count f).ca = s.ca := rfl
@[simp] theorem State.count_cv (s : State) (f : LineCounters → LineCounters) : (s.count f).cv = s.cv := rfl
@[simp] theorem State.count_rs (s : State) (f : LineCounters → LineCounters) : (s.count f).rs = s.rs := rfl
@[simp] theorem State.count_wu (s : State) (f : LineCounters → LineCounters) : (s.count f).wu = s.wu := rfl
@[simp] theorem State.count_tcu (s : State) (f : LineCounters → LineCounters) : (s.count f).tcu = s.tcu := rfl
@[simp] theorem State.count_ou (s : State) (f : LineCounters → LineCounters) : (s.count f).ou = s.ou := rfl
@[simp] theorem State.count_su (s : State) (f : LineCounters → LineCounters) : (s.count f).su = s.su := rfl
@[simp] theorem State.count_nq (s : State) (f : LineCounters → LineCounters) : (s.count f).nq = s.nq := rfl
@[simp] theorem State.count_rh (s : State) (f : LineCounters → LineCounters) : (s.count f).rh = s.rh := rfl
@[simp] theorem State.count_nc (s : State) (f : LineCounters → LineCounters) : (s.count f).nc = s.nc := rfl
@[simp] theorem State.count_resetHeld (s : State) (f : LineCounters → LineCounters) : (s.count f).resetHeld = s.resetHeld := rfl
@[simp] theorem State.count_free (s : State) (f : LineCounters → LineCounters) : (s.count f).free = s.free := rfl
@[simp] theorem State.count_pending (s : State) (f : LineCounters → LineCounters) : (s.count f).pending = s.pending := rfl
@[simp] theorem State.count_li_straps (s : State) (f : LineCounters → LineCounters) :
    (s.count f).li.straps = s.li.straps := rfl
@[simp] theorem State.count_li_rx (s : State) (f : LineCounters → LineCounters) :
    (s.count f).li.rx = s.li.rx := rfl
@[simp] theorem State.count_li_tx (s : State) (f : LineCounters → LineCounters) :
    (s.count f).li.tx = s.li.tx := rfl
@[simp] theorem State.count_li_counters (s : State) (f : LineCounters → LineCounters) :
    (s.count f).li.counters = f s.li.counters := rfl

/-! ### setRx -/

@[simp] theorem State.setRx_se (s : State) (r : Receiver) : (s.setRx r).se = s.se := rfl
@[simp] theorem State.setRx_ca (s : State) (r : Receiver) : (s.setRx r).ca = s.ca := rfl
@[simp] theorem State.setRx_cv (s : State) (r : Receiver) : (s.setRx r).cv = s.cv := rfl
@[simp] theorem State.setRx_rs (s : State) (r : Receiver) : (s.setRx r).rs = s.rs := rfl
@[simp] theorem State.setRx_wu (s : State) (r : Receiver) : (s.setRx r).wu = s.wu := rfl
@[simp] theorem State.setRx_tcu (s : State) (r : Receiver) : (s.setRx r).tcu = s.tcu := rfl
@[simp] theorem State.setRx_ou (s : State) (r : Receiver) : (s.setRx r).ou = s.ou := rfl
@[simp] theorem State.setRx_su (s : State) (r : Receiver) : (s.setRx r).su = s.su := rfl
@[simp] theorem State.setRx_nq (s : State) (r : Receiver) : (s.setRx r).nq = s.nq := rfl
@[simp] theorem State.setRx_rh (s : State) (r : Receiver) : (s.setRx r).rh = s.rh := rfl
@[simp] theorem State.setRx_nc (s : State) (r : Receiver) : (s.setRx r).nc = s.nc := rfl
@[simp] theorem State.setRx_resetHeld (s : State) (r : Receiver) : (s.setRx r).resetHeld = s.resetHeld := rfl
@[simp] theorem State.setRx_free (s : State) (r : Receiver) : (s.setRx r).free = s.free := rfl
@[simp] theorem State.setRx_pending (s : State) (r : Receiver) : (s.setRx r).pending = s.pending := rfl
@[simp] theorem State.setRx_li_straps (s : State) (r : Receiver) :
    (s.setRx r).li.straps = s.li.straps := rfl
@[simp] theorem State.setRx_li_rx (s : State) (r : Receiver) :
    (s.setRx r).li.rx = r := rfl
@[simp] theorem State.setRx_li_tx (s : State) (r : Receiver) :
    (s.setRx r).li.tx = s.li.tx := rfl
@[simp] theorem State.setRx_li_counters (s : State) (r : Receiver) :
    (s.setRx r).li.counters = s.li.counters := rfl

/-! ### setTx -/

@[simp] theorem State.setTx_se (s : State) (t : Transmitter) : (s.setTx t).se = s.se := rfl
@[simp] theorem State.setTx_ca (s : State) (t : Transmitter) : (s.setTx t).ca = s.ca := rfl
@[simp] theorem State.setTx_cv (s : State) (t : Transmitter) : (s.setTx t).cv = s.cv := rfl
@[simp] theorem State.setTx_rs (s : State) (t : Transmitter) : (s.setTx t).rs = s.rs := rfl
@[simp] theorem State.setTx_wu (s : State) (t : Transmitter) : (s.setTx t).wu = s.wu := rfl
@[simp] theorem State.setTx_tcu (s : State) (t : Transmitter) : (s.setTx t).tcu = s.tcu := rfl
@[simp] theorem State.setTx_ou (s : State) (t : Transmitter) : (s.setTx t).ou = s.ou := rfl
@[simp] theorem State.setTx_su (s : State) (t : Transmitter) : (s.setTx t).su = s.su := rfl
@[simp] theorem State.setTx_nq (s : State) (t : Transmitter) : (s.setTx t).nq = s.nq := rfl
@[simp] theorem State.setTx_rh (s : State) (t : Transmitter) : (s.setTx t).rh = s.rh := rfl
@[simp] theorem State.setTx_nc (s : State) (t : Transmitter) : (s.setTx t).nc = s.nc := rfl
@[simp] theorem State.setTx_resetHeld (s : State) (t : Transmitter) : (s.setTx t).resetHeld = s.resetHeld := rfl
@[simp] theorem State.setTx_free (s : State) (t : Transmitter) : (s.setTx t).free = s.free := rfl
@[simp] theorem State.setTx_pending (s : State) (t : Transmitter) : (s.setTx t).pending = s.pending := rfl
@[simp] theorem State.setTx_li_straps (s : State) (t : Transmitter) :
    (s.setTx t).li.straps = s.li.straps := rfl
@[simp] theorem State.setTx_li_rx (s : State) (t : Transmitter) :
    (s.setTx t).li.rx = s.li.rx := rfl
@[simp] theorem State.setTx_li_tx (s : State) (t : Transmitter) :
    (s.setTx t).li.tx = t := rfl
@[simp] theorem State.setTx_li_counters (s : State) (t : Transmitter) :
    (s.setTx t).li.counters = s.li.counters := rfl

/-! ### useFree -/

@[simp] theorem State.useFree_se (s : State) : s.useFree.se = s.se := rfl
@[simp] theorem State.useFree_ca (s : State) : s.useFree.ca = s.ca := rfl
@[simp] theorem State.useFree_cv (s : State) : s.useFree.cv = s.cv := rfl
@[simp] theorem State.useFree_rs (s : State) : s.useFree.rs = s.rs := rfl
@[simp] theorem State.useFree_wu (s : State) : s.useFree.wu = s.wu := rfl
@[simp] theorem State.useFree_tcu (s : State) : s.useFree.tcu = s.tcu := rfl
@[simp] theorem State.useFree_ou (s : State) : s.useFree.ou = s.ou := rfl
@[simp] theorem State.useFree_su (s : State) : s.useFree.su = s.su := rfl
@[simp] theorem State.useFree_nq (s : State) : s.useFree.nq = s.nq := rfl
@[simp] theorem State.useFree_rh (s : State) : s.useFree.rh = s.rh := rfl
@[simp] theorem State.useFree_li (s : State) : s.useFree.li = s.li := rfl
@[simp] theorem State.useFree_nc (s : State) : s.useFree.nc = s.nc := rfl
@[simp] theorem State.useFree_resetHeld (s : State) : s.useFree.resetHeld = s.resetHeld := rfl
@[simp] theorem State.useFree_pending (s : State) : s.useFree.pending = s.pending := rfl
@[simp] theorem State.useFree_free (s : State) :
    s.useFree.free = s.free + 1 := rfl

/-! ### withPending -/

@[simp] theorem State.withPending_se (s : State) (q : List Instr) : (s.withPending q).se = s.se := rfl
@[simp] theorem State.withPending_ca (s : State) (q : List Instr) : (s.withPending q).ca = s.ca := rfl
@[simp] theorem State.withPending_cv (s : State) (q : List Instr) : (s.withPending q).cv = s.cv := rfl
@[simp] theorem State.withPending_rs (s : State) (q : List Instr) : (s.withPending q).rs = s.rs := rfl
@[simp] theorem State.withPending_wu (s : State) (q : List Instr) : (s.withPending q).wu = s.wu := rfl
@[simp] theorem State.withPending_tcu (s : State) (q : List Instr) : (s.withPending q).tcu = s.tcu := rfl
@[simp] theorem State.withPending_ou (s : State) (q : List Instr) : (s.withPending q).ou = s.ou := rfl
@[simp] theorem State.withPending_su (s : State) (q : List Instr) : (s.withPending q).su = s.su := rfl
@[simp] theorem State.withPending_nq (s : State) (q : List Instr) : (s.withPending q).nq = s.nq := rfl
@[simp] theorem State.withPending_rh (s : State) (q : List Instr) : (s.withPending q).rh = s.rh := rfl
@[simp] theorem State.withPending_li (s : State) (q : List Instr) : (s.withPending q).li = s.li := rfl
@[simp] theorem State.withPending_nc (s : State) (q : List Instr) : (s.withPending q).nc = s.nc := rfl
@[simp] theorem State.withPending_resetHeld (s : State) (q : List Instr) : (s.withPending q).resetHeld = s.resetHeld := rfl
@[simp] theorem State.withPending_free (s : State) (q : List Instr) : (s.withPending q).free = s.free := rfl
@[simp] theorem State.withPending_pending (s : State) (q : List Instr) :
    (s.withPending q).pending = q := rfl

/-! ### abandon -/

@[simp] theorem State.abandon_se (s : State) : s.abandon.se = s.se := rfl
@[simp] theorem State.abandon_rs (s : State) : s.abandon.rs = s.rs := rfl
@[simp] theorem State.abandon_wu (s : State) : s.abandon.wu = s.wu := rfl
@[simp] theorem State.abandon_tcu (s : State) : s.abandon.tcu = s.tcu := rfl
@[simp] theorem State.abandon_ou (s : State) : s.abandon.ou = s.ou := rfl
@[simp] theorem State.abandon_su (s : State) : s.abandon.su = s.su := rfl
@[simp] theorem State.abandon_nq (s : State) : s.abandon.nq = s.nq := rfl
@[simp] theorem State.abandon_rh (s : State) : s.abandon.rh = s.rh := rfl
@[simp] theorem State.abandon_li (s : State) : s.abandon.li = s.li := rfl
@[simp] theorem State.abandon_nc (s : State) : s.abandon.nc = s.nc := rfl
@[simp] theorem State.abandon_resetHeld (s : State) : s.abandon.resetHeld = s.resetHeld := rfl
@[simp] theorem State.abandon_free (s : State) : s.abandon.free = s.free := rfl
@[simp] theorem State.abandon_pending (s : State) : s.abandon.pending = s.pending := rfl
@[simp] theorem State.abandon_ca_queue (s : State) :
    s.abandon.ca.queue = s.ca.queue := rfl
@[simp] theorem State.abandon_ca_pointers (s : State) :
    s.abandon.ca.pointers = s.ca.pointers := rfl
@[simp] theorem State.abandon_ca_grant (s : State) :
    s.abandon.ca.grant = none := rfl
@[simp] theorem State.abandon_ca_nextTicket (s : State) :
    s.abandon.ca.nextTicket = s.ca.nextTicket := rfl
@[simp] theorem State.abandon_cv_state (s : State) :
    s.abandon.cv.state = .idle := rfl
@[simp] theorem State.abandon_cv_settings (s : State) :
    s.abandon.cv.settings = s.cv.settings := rfl

/-! ### giveConverter -/

@[simp] theorem State.giveConverter_se (s : State) (o : Owner) (c : Fin 16) (g : OptGroup) : (s.giveConverter o c g).se = s.se := rfl
@[simp] theorem State.giveConverter_rs (s : State) (o : Owner) (c : Fin 16) (g : OptGroup) : (s.giveConverter o c g).rs = s.rs := rfl
@[simp] theorem State.giveConverter_wu (s : State) (o : Owner) (c : Fin 16) (g : OptGroup) : (s.giveConverter o c g).wu = s.wu := rfl
@[simp] theorem State.giveConverter_tcu (s : State) (o : Owner) (c : Fin 16) (g : OptGroup) : (s.giveConverter o c g).tcu = s.tcu := rfl
@[simp] theorem State.giveConverter_ou (s : State) (o : Owner) (c : Fin 16) (g : OptGroup) : (s.giveConverter o c g).ou = s.ou := rfl
@[simp] theorem State.giveConverter_su (s : State) (o : Owner) (c : Fin 16) (g : OptGroup) : (s.giveConverter o c g).su = s.su := rfl
@[simp] theorem State.giveConverter_nq (s : State) (o : Owner) (c : Fin 16) (g : OptGroup) : (s.giveConverter o c g).nq = s.nq := rfl
@[simp] theorem State.giveConverter_rh (s : State) (o : Owner) (c : Fin 16) (g : OptGroup) : (s.giveConverter o c g).rh = s.rh := rfl
@[simp] theorem State.giveConverter_li (s : State) (o : Owner) (c : Fin 16) (g : OptGroup) : (s.giveConverter o c g).li = s.li := rfl
@[simp] theorem State.giveConverter_nc (s : State) (o : Owner) (c : Fin 16) (g : OptGroup) : (s.giveConverter o c g).nc = s.nc := rfl
@[simp] theorem State.giveConverter_resetHeld (s : State) (o : Owner) (c : Fin 16) (g : OptGroup) : (s.giveConverter o c g).resetHeld = s.resetHeld := rfl
@[simp] theorem State.giveConverter_free (s : State) (o : Owner) (c : Fin 16) (g : OptGroup) : (s.giveConverter o c g).free = s.free := rfl
@[simp] theorem State.giveConverter_pending (s : State) (o : Owner) (c : Fin 16) (g : OptGroup) : (s.giveConverter o c g).pending = s.pending := rfl
@[simp] theorem State.giveConverter_ca_queue (s : State) (o : Owner) (c : Fin 16) (g : OptGroup) :
    (s.giveConverter o c g).ca.queue = s.ca.queue := rfl
@[simp] theorem State.giveConverter_ca_pointers (s : State) (o : Owner) (c : Fin 16) (g : OptGroup) :
    (s.giveConverter o c g).ca.pointers = s.ca.pointers := rfl
@[simp] theorem State.giveConverter_ca_grant (s : State) (o : Owner) (c : Fin 16) (g : OptGroup) :
    (s.giveConverter o c g).ca.grant = some { owner := o, channel := c, options := effective s.cv.settings c g, stamp := s.now } := rfl
@[simp] theorem State.giveConverter_ca_nextTicket (s : State) (o : Owner) (c : Fin 16) (g : OptGroup) :
    (s.giveConverter o c g).ca.nextTicket = s.ca.nextTicket := rfl
@[simp] theorem State.giveConverter_cv_state (s : State) (o : Owner) (c : Fin 16) (g : OptGroup) :
    (s.giveConverter o c g).cv.state = startConversion s.now c (effective s.cv.settings c g) := rfl
@[simp] theorem State.giveConverter_cv_settings (s : State) (o : Owner) (c : Fin 16) (g : OptGroup) :
    (s.giveConverter o c g).cv.settings = s.cv.settings := rfl

/-! ### send -/

@[simp] theorem State.send_se (s : State) (f reply : Frame) : (s.send f reply).se = s.se := rfl
@[simp] theorem State.send_ca (s : State) (f reply : Frame) : (s.send f reply).ca = s.ca := rfl
@[simp] theorem State.send_cv (s : State) (f reply : Frame) : (s.send f reply).cv = s.cv := rfl
@[simp] theorem State.send_rs (s : State) (f reply : Frame) : (s.send f reply).rs = s.rs := rfl
@[simp] theorem State.send_wu (s : State) (f reply : Frame) : (s.send f reply).wu = s.wu := rfl
@[simp] theorem State.send_tcu (s : State) (f reply : Frame) : (s.send f reply).tcu = s.tcu := rfl
@[simp] theorem State.send_ou (s : State) (f reply : Frame) : (s.send f reply).ou = s.ou := rfl
@[simp] theorem State.send_su (s : State) (f reply : Frame) : (s.send f reply).su = s.su := rfl
@[simp] theorem State.send_nq (s : State) (f reply : Frame) : (s.send f reply).nq = s.nq := rfl
@[simp] theorem State.send_nc (s : State) (f reply : Frame) : (s.send f reply).nc = s.nc := rfl
@[simp] theorem State.send_resetHeld (s : State) (f reply : Frame) : (s.send f reply).resetHeld = s.resetHeld := rfl
@[simp] theorem State.send_free (s : State) (f reply : Frame) : (s.send f reply).free = s.free := rfl
@[simp] theorem State.send_pending (s : State) (f reply : Frame) : (s.send f reply).pending = s.pending := rfl
@[simp] theorem State.send_rh_inHand (s : State) (f reply : Frame) :
    (s.send f reply).rh.inHand = some (f, .replying) := rfl
@[simp] theorem State.send_rh_cache (s : State) (f reply : Frame) :
    (s.send f reply).rh.cache = s.rh.cache := rfl
@[simp] theorem State.send_li_straps (s : State) (f reply : Frame) :
    (s.send f reply).li.straps = s.li.straps := rfl
@[simp] theorem State.send_li_rx (s : State) (f reply : Frame) :
    (s.send f reply).li.rx = s.li.rx := rfl
@[simp] theorem State.send_li_tx (s : State) (f reply : Frame) :
    (s.send f reply).li.tx = .turnaround reply := rfl
@[simp] theorem State.send_li_counters (s : State) (f reply : Frame) :
    (s.send f reply).li.counters = s.li.counters := rfl

/-! ### raiseIf and abandonList -/

@[simp] theorem State.raiseIf_se (s : State) (c : Bool) (b : NoticeBody) :
    (s.raiseIf c b).se = s.se := by cases c <;> rfl
@[simp] theorem State.raiseIf_ca (s : State) (c : Bool) (b : NoticeBody) :
    (s.raiseIf c b).ca = s.ca := by cases c <;> rfl
@[simp] theorem State.raiseIf_cv (s : State) (c : Bool) (b : NoticeBody) :
    (s.raiseIf c b).cv = s.cv := by cases c <;> rfl
@[simp] theorem State.raiseIf_rs (s : State) (c : Bool) (b : NoticeBody) :
    (s.raiseIf c b).rs = s.rs := by cases c <;> rfl
@[simp] theorem State.raiseIf_wu (s : State) (c : Bool) (b : NoticeBody) :
    (s.raiseIf c b).wu = s.wu := by cases c <;> rfl
@[simp] theorem State.raiseIf_tcu (s : State) (c : Bool) (b : NoticeBody) :
    (s.raiseIf c b).tcu = s.tcu := by cases c <;> rfl
@[simp] theorem State.raiseIf_ou (s : State) (c : Bool) (b : NoticeBody) :
    (s.raiseIf c b).ou = s.ou := by cases c <;> rfl
@[simp] theorem State.raiseIf_su (s : State) (c : Bool) (b : NoticeBody) :
    (s.raiseIf c b).su = s.su := by cases c <;> rfl
@[simp] theorem State.raiseIf_rh (s : State) (c : Bool) (b : NoticeBody) :
    (s.raiseIf c b).rh = s.rh := by cases c <;> rfl
@[simp] theorem State.raiseIf_li (s : State) (c : Bool) (b : NoticeBody) :
    (s.raiseIf c b).li = s.li := by cases c <;> rfl
@[simp] theorem State.raiseIf_nc (s : State) (c : Bool) (b : NoticeBody) :
    (s.raiseIf c b).nc = s.nc := by cases c <;> rfl
@[simp] theorem State.raiseIf_resetHeld (s : State) (c : Bool) (b : NoticeBody) :
    (s.raiseIf c b).resetHeld = s.resetHeld := by cases c <;> rfl
@[simp] theorem State.raiseIf_free (s : State) (c : Bool) (b : NoticeBody) :
    (s.raiseIf c b).free = s.free := by cases c <;> rfl
@[simp] theorem State.raiseIf_pending (s : State) (c : Bool) (b : NoticeBody) :
    (s.raiseIf c b).pending = s.pending := by cases c <;> rfl
@[simp] theorem State.raiseIf_true (s : State) (b : NoticeBody) : s.raiseIf true b = s.raise b := rfl
@[simp] theorem State.raiseIf_false (s : State) (b : NoticeBody) : s.raiseIf false b = s := rfl

@[simp] theorem State.abandonList_se (s : State) (k : Fin 8) :
    (s.abandonList k).se = s.se := by unfold State.abandonList; split <;> rfl
@[simp] theorem State.abandonList_rs (s : State) (k : Fin 8) :
    (s.abandonList k).rs = s.rs := by unfold State.abandonList; split <;> rfl
@[simp] theorem State.abandonList_wu (s : State) (k : Fin 8) :
    (s.abandonList k).wu = s.wu := by unfold State.abandonList; split <;> rfl
@[simp] theorem State.abandonList_tcu (s : State) (k : Fin 8) :
    (s.abandonList k).tcu = s.tcu := by unfold State.abandonList; split <;> rfl
@[simp] theorem State.abandonList_ou (s : State) (k : Fin 8) :
    (s.abandonList k).ou = s.ou := by unfold State.abandonList; split <;> rfl
@[simp] theorem State.abandonList_su (s : State) (k : Fin 8) :
    (s.abandonList k).su = s.su := by unfold State.abandonList; split <;> rfl
@[simp] theorem State.abandonList_nq (s : State) (k : Fin 8) :
    (s.abandonList k).nq = s.nq := by unfold State.abandonList; split <;> rfl
@[simp] theorem State.abandonList_rh (s : State) (k : Fin 8) :
    (s.abandonList k).rh = s.rh := by unfold State.abandonList; split <;> rfl
@[simp] theorem State.abandonList_li (s : State) (k : Fin 8) :
    (s.abandonList k).li = s.li := by unfold State.abandonList; split <;> rfl
@[simp] theorem State.abandonList_nc (s : State) (k : Fin 8) :
    (s.abandonList k).nc = s.nc := by unfold State.abandonList; split <;> rfl
@[simp] theorem State.abandonList_resetHeld (s : State) (k : Fin 8) :
    (s.abandonList k).resetHeld = s.resetHeld := by unfold State.abandonList; split <;> rfl
@[simp] theorem State.abandonList_free (s : State) (k : Fin 8) :
    (s.abandonList k).free = s.free := by unfold State.abandonList; split <;> rfl
@[simp] theorem State.abandonList_pending (s : State) (k : Fin 8) :
    (s.abandonList k).pending = s.pending := by unfold State.abandonList; split <;> rfl
@[simp] theorem State.abandonList_cv_settings (s : State) (k : Fin 8) :
    (s.abandonList k).cv.settings = s.cv.settings := by unfold State.abandonList; split <;> rfl

/-! ### One entry after an update of one -/

@[simp] theorem State.list_updList_self (s : State) (k : Fin 8) (f : ListRecord → ListRecord) :
    (s.updList k f).list k = f (s.list k) := by simp [State.list, State.updList]

theorem State.list_updList_ne (s : State) (k j : Fin 8) (f : ListRecord → ListRecord) (h : j ≠ k) :
    (s.updList k f).list j = s.list j := by
  have hv : k.val ≠ j.val := fun e => h (Fin.ext e.symm)
  simp [State.list, State.updList, Vector.getElem_set_ne, hv]

theorem State.list_updList (s : State) (k j : Fin 8) (f : ListRecord → ListRecord) :
    (s.updList k f).list j = if j = k then f (s.list k) else s.list j := by
  split
  · next h => subst h; simp
  · next h => exact State.list_updList_ne s k j f h

@[simp] theorem State.line_updLine_self (s : State) (k : Fin 4) (f : OutputLine → OutputLine) :
    (s.updLine k f).line k = f (s.line k) := by simp [State.line, State.updLine]

theorem State.line_updLine_ne (s : State) (k j : Fin 4) (f : OutputLine → OutputLine) (h : j ≠ k) :
    (s.updLine k f).line j = s.line j := by
  have hv : k.val ≠ j.val := fun e => h (Fin.ext e.symm)
  simp [State.line, State.updLine, Vector.getElem_set_ne, hv]

theorem State.line_updLine (s : State) (k j : Fin 4) (f : OutputLine → OutputLine) :
    (s.updLine k f).line j = if j = k then f (s.line k) else s.line j := by
  split
  · next h => subst h; simp
  · next h => exact State.line_updLine_ne s k j f h

@[simp] theorem State.input_updInput_self (s : State) (k : Fin 4) (f : CaptureInput → CaptureInput) :
    (s.updInput k f).input k = f (s.input k) := by simp [State.input, State.updInput]

theorem State.input_updInput_ne (s : State) (k j : Fin 4) (f : CaptureInput → CaptureInput) (h : j ≠ k) :
    (s.updInput k f).input j = s.input j := by
  have hv : k.val ≠ j.val := fun e => h (Fin.ext e.symm)
  simp [State.input, State.updInput, Vector.getElem_set_ne, hv]

theorem State.input_updInput (s : State) (k j : Fin 4) (f : CaptureInput → CaptureInput) :
    (s.updInput k f).input j = if j = k then f (s.input k) else s.input j := by
  split
  · next h => subst h; simp
  · next h => exact State.input_updInput_ne s k j f h

@[simp] theorem State.watch_setWatch_self (s : State) (w : Fin 12) (e : Option WatchEntry) :
    (s.setWatch w e).watch w = e := by simp [State.watch, State.setWatch]

theorem State.watch_setWatch_ne (s : State) (w v : Fin 12) (e : Option WatchEntry) (h : v ≠ w) :
    (s.setWatch w e).watch v = s.watch v := by
  have hv : w.val ≠ v.val := fun e => h (Fin.ext e.symm)
  simp [State.watch, State.setWatch, Vector.getElem_set_ne, hv]

/-- A vector made from a function reads as the function. -/
@[simp] theorem vecOf_get {α : Type} {n : Nat} (f : Fin n → α) (i : Nat) (h : i < n) :
    (vecOf f)[i] = f ⟨i, h⟩ := by simp [vecOf]

/-! ### Where an entry lives: reads through the other updates -/

@[simp] theorem State.list_updLine (s : State) (k : Fin 4) (f : OutputLine → OutputLine) (j : Fin 8) :
    (s.updLine k f).list j = s.list j := rfl
@[simp] theorem State.list_setWatch (s : State) (w : Fin 12) (e : Option WatchEntry) (j : Fin 8) :
    (s.setWatch w e).list j = s.list j := rfl
@[simp] theorem State.list_updInput (s : State) (k : Fin 4) (f : CaptureInput → CaptureInput) (j : Fin 8) :
    (s.updInput k f).list j = s.list j := rfl
@[simp] theorem State.list_raise (s : State) (b : NoticeBody) (j : Fin 8) :
    (s.raise b).list j = s.list j := rfl
@[simp] theorem State.list_writeLine (s : State) (k : Fin 4) (v : Level) (x : LineSource) (j : Fin 8) :
    (s.writeLine k v x).list j = s.list j := rfl
@[simp] theorem State.list_advance (s : State) (d : Stamp) (j : Fin 8) :
    (s.advance d).list j = s.list j := rfl
@[simp] theorem State.list_setPin (s : State) (k : Fin 4) (v : Level) (j : Fin 8) :
    (s.setPin k v).list j = s.list j := rfl
@[simp] theorem State.list_setConverter (s : State) (x : ConverterState) (j : Fin 8) :
    (s.setConverter x).list j = s.list j := rfl
@[simp] theorem State.list_setTable (s : State) (t : List ScheduleEntry) (j : Fin 8) :
    (s.setTable t).list j = s.list j := rfl
@[simp] theorem State.list_hold (s : State) (h : Option (Frame × Phase)) (j : Fin 8) :
    (s.hold h).list j = s.list j := rfl
@[simp] theorem State.list_cache (s : State) (f reply : Frame) (j : Fin 8) :
    (s.cache f reply).list j = s.list j := rfl
@[simp] theorem State.list_count (s : State) (f : LineCounters → LineCounters) (j : Fin 8) :
    (s.count f).list j = s.list j := rfl
@[simp] theorem State.list_setRx (s : State) (r : Receiver) (j : Fin 8) :
    (s.setRx r).list j = s.list j := rfl
@[simp] theorem State.list_setTx (s : State) (t : Transmitter) (j : Fin 8) :
    (s.setTx t).list j = s.list j := rfl
@[simp] theorem State.list_useFree (s : State) (j : Fin 8) :
    s.useFree.list j = s.list j := rfl
@[simp] theorem State.list_withPending (s : State) (q : List Instr) (j : Fin 8) :
    (s.withPending q).list j = s.list j := rfl
@[simp] theorem State.list_abandon (s : State) (j : Fin 8) :
    s.abandon.list j = s.list j := rfl
@[simp] theorem State.list_giveConverter (s : State) (o : Owner) (c : Fin 16) (g : OptGroup) (j : Fin 8) :
    (s.giveConverter o c g).list j = s.list j := rfl
@[simp] theorem State.list_send (s : State) (f reply : Frame) (j : Fin 8) :
    (s.send f reply).list j = s.list j := rfl
@[simp] theorem State.list_raiseIf (s : State) (c : Bool) (b : NoticeBody) (j : Fin 8) :
    (s.raiseIf c b).list j = s.list j := by cases c <;> rfl
@[simp] theorem State.list_abandonList (s : State) (k : Fin 8) (j : Fin 8) :
    (s.abandonList k).list j = s.list j := by unfold State.abandonList; split <;> rfl

@[simp] theorem State.line_updList (s : State) (k : Fin 8) (f : ListRecord → ListRecord) (j : Fin 4) :
    (s.updList k f).line j = s.line j := rfl
@[simp] theorem State.line_setWatch (s : State) (w : Fin 12) (e : Option WatchEntry) (j : Fin 4) :
    (s.setWatch w e).line j = s.line j := rfl
@[simp] theorem State.line_updInput (s : State) (k : Fin 4) (f : CaptureInput → CaptureInput) (j : Fin 4) :
    (s.updInput k f).line j = s.line j := rfl
@[simp] theorem State.line_raise (s : State) (b : NoticeBody) (j : Fin 4) :
    (s.raise b).line j = s.line j := rfl
@[simp] theorem State.line_advance (s : State) (d : Stamp) (j : Fin 4) :
    (s.advance d).line j = s.line j := rfl
@[simp] theorem State.line_setPin (s : State) (k : Fin 4) (v : Level) (j : Fin 4) :
    (s.setPin k v).line j = s.line j := rfl
@[simp] theorem State.line_setConverter (s : State) (x : ConverterState) (j : Fin 4) :
    (s.setConverter x).line j = s.line j := rfl
@[simp] theorem State.line_setTable (s : State) (t : List ScheduleEntry) (j : Fin 4) :
    (s.setTable t).line j = s.line j := rfl
@[simp] theorem State.line_hold (s : State) (h : Option (Frame × Phase)) (j : Fin 4) :
    (s.hold h).line j = s.line j := rfl
@[simp] theorem State.line_cache (s : State) (f reply : Frame) (j : Fin 4) :
    (s.cache f reply).line j = s.line j := rfl
@[simp] theorem State.line_count (s : State) (f : LineCounters → LineCounters) (j : Fin 4) :
    (s.count f).line j = s.line j := rfl
@[simp] theorem State.line_setRx (s : State) (r : Receiver) (j : Fin 4) :
    (s.setRx r).line j = s.line j := rfl
@[simp] theorem State.line_setTx (s : State) (t : Transmitter) (j : Fin 4) :
    (s.setTx t).line j = s.line j := rfl
@[simp] theorem State.line_useFree (s : State) (j : Fin 4) :
    s.useFree.line j = s.line j := rfl
@[simp] theorem State.line_withPending (s : State) (q : List Instr) (j : Fin 4) :
    (s.withPending q).line j = s.line j := rfl
@[simp] theorem State.line_abandon (s : State) (j : Fin 4) :
    s.abandon.line j = s.line j := rfl
@[simp] theorem State.line_giveConverter (s : State) (o : Owner) (c : Fin 16) (g : OptGroup) (j : Fin 4) :
    (s.giveConverter o c g).line j = s.line j := rfl
@[simp] theorem State.line_send (s : State) (f reply : Frame) (j : Fin 4) :
    (s.send f reply).line j = s.line j := rfl
@[simp] theorem State.line_raiseIf (s : State) (c : Bool) (b : NoticeBody) (j : Fin 4) :
    (s.raiseIf c b).line j = s.line j := by cases c <;> rfl
@[simp] theorem State.line_abandonList (s : State) (k : Fin 8) (j : Fin 4) :
    (s.abandonList k).line j = s.line j := by unfold State.abandonList; split <;> rfl

@[simp] theorem State.watch_updList (s : State) (k : Fin 8) (f : ListRecord → ListRecord) (j : Fin 12) :
    (s.updList k f).watch j = s.watch j := rfl
@[simp] theorem State.watch_updLine (s : State) (k : Fin 4) (f : OutputLine → OutputLine) (j : Fin 12) :
    (s.updLine k f).watch j = s.watch j := rfl
@[simp] theorem State.watch_updInput (s : State) (k : Fin 4) (f : CaptureInput → CaptureInput) (j : Fin 12) :
    (s.updInput k f).watch j = s.watch j := rfl
@[simp] theorem State.watch_raise (s : State) (b : NoticeBody) (j : Fin 12) :
    (s.raise b).watch j = s.watch j := rfl
@[simp] theorem State.watch_writeLine (s : State) (k : Fin 4) (v : Level) (x : LineSource) (j : Fin 12) :
    (s.writeLine k v x).watch j = s.watch j := rfl
@[simp] theorem State.watch_advance (s : State) (d : Stamp) (j : Fin 12) :
    (s.advance d).watch j = s.watch j := rfl
@[simp] theorem State.watch_setPin (s : State) (k : Fin 4) (v : Level) (j : Fin 12) :
    (s.setPin k v).watch j = s.watch j := rfl
@[simp] theorem State.watch_setConverter (s : State) (x : ConverterState) (j : Fin 12) :
    (s.setConverter x).watch j = s.watch j := rfl
@[simp] theorem State.watch_setTable (s : State) (t : List ScheduleEntry) (j : Fin 12) :
    (s.setTable t).watch j = s.watch j := rfl
@[simp] theorem State.watch_hold (s : State) (h : Option (Frame × Phase)) (j : Fin 12) :
    (s.hold h).watch j = s.watch j := rfl
@[simp] theorem State.watch_cache (s : State) (f reply : Frame) (j : Fin 12) :
    (s.cache f reply).watch j = s.watch j := rfl
@[simp] theorem State.watch_count (s : State) (f : LineCounters → LineCounters) (j : Fin 12) :
    (s.count f).watch j = s.watch j := rfl
@[simp] theorem State.watch_setRx (s : State) (r : Receiver) (j : Fin 12) :
    (s.setRx r).watch j = s.watch j := rfl
@[simp] theorem State.watch_setTx (s : State) (t : Transmitter) (j : Fin 12) :
    (s.setTx t).watch j = s.watch j := rfl
@[simp] theorem State.watch_useFree (s : State) (j : Fin 12) :
    s.useFree.watch j = s.watch j := rfl
@[simp] theorem State.watch_withPending (s : State) (q : List Instr) (j : Fin 12) :
    (s.withPending q).watch j = s.watch j := rfl
@[simp] theorem State.watch_abandon (s : State) (j : Fin 12) :
    s.abandon.watch j = s.watch j := rfl
@[simp] theorem State.watch_giveConverter (s : State) (o : Owner) (c : Fin 16) (g : OptGroup) (j : Fin 12) :
    (s.giveConverter o c g).watch j = s.watch j := rfl
@[simp] theorem State.watch_send (s : State) (f reply : Frame) (j : Fin 12) :
    (s.send f reply).watch j = s.watch j := rfl
@[simp] theorem State.watch_raiseIf (s : State) (c : Bool) (b : NoticeBody) (j : Fin 12) :
    (s.raiseIf c b).watch j = s.watch j := by cases c <;> rfl
@[simp] theorem State.watch_abandonList (s : State) (k : Fin 8) (j : Fin 12) :
    (s.abandonList k).watch j = s.watch j := by unfold State.abandonList; split <;> rfl

@[simp] theorem State.now_updList (s : State) (k : Fin 8) (f : ListRecord → ListRecord) : (s.updList k f).now = s.now := rfl
@[simp] theorem State.now_updLine (s : State) (k : Fin 4) (f : OutputLine → OutputLine) : (s.updLine k f).now = s.now := rfl
@[simp] theorem State.now_setWatch (s : State) (w : Fin 12) (e : Option WatchEntry) : (s.setWatch w e).now = s.now := rfl
@[simp] theorem State.now_updInput (s : State) (k : Fin 4) (f : CaptureInput → CaptureInput) : (s.updInput k f).now = s.now := rfl
@[simp] theorem State.now_raise (s : State) (b : NoticeBody) : (s.raise b).now = s.now := rfl
@[simp] theorem State.now_writeLine (s : State) (k : Fin 4) (v : Level) (x : LineSource) : (s.writeLine k v x).now = s.now := rfl
@[simp] theorem State.now_setPin (s : State) (k : Fin 4) (v : Level) : (s.setPin k v).now = s.now := rfl
@[simp] theorem State.now_setConverter (s : State) (x : ConverterState) : (s.setConverter x).now = s.now := rfl
@[simp] theorem State.now_setTable (s : State) (t : List ScheduleEntry) : (s.setTable t).now = s.now := rfl
@[simp] theorem State.now_hold (s : State) (h : Option (Frame × Phase)) : (s.hold h).now = s.now := rfl
@[simp] theorem State.now_cache (s : State) (f reply : Frame) : (s.cache f reply).now = s.now := rfl
@[simp] theorem State.now_count (s : State) (f : LineCounters → LineCounters) : (s.count f).now = s.now := rfl
@[simp] theorem State.now_setRx (s : State) (r : Receiver) : (s.setRx r).now = s.now := rfl
@[simp] theorem State.now_setTx (s : State) (t : Transmitter) : (s.setTx t).now = s.now := rfl
@[simp] theorem State.now_useFree (s : State) : s.useFree.now = s.now := rfl
@[simp] theorem State.now_withPending (s : State) (q : List Instr) : (s.withPending q).now = s.now := rfl
@[simp] theorem State.now_abandon (s : State) : s.abandon.now = s.now := rfl
@[simp] theorem State.now_giveConverter (s : State) (o : Owner) (c : Fin 16) (g : OptGroup) : (s.giveConverter o c g).now = s.now := rfl
@[simp] theorem State.now_send (s : State) (f reply : Frame) : (s.send f reply).now = s.now := rfl
@[simp] theorem State.now_advance (s : State) (d : Stamp) : (s.advance d).now = d := rfl
@[simp] theorem State.now_raiseIf (s : State) (c : Bool) (b : NoticeBody) : (s.raiseIf c b).now = s.now := by
  cases c <;> rfl
@[simp] theorem State.now_abandonList (s : State) (k : Fin 8) : (s.abandonList k).now = s.now := by
  unfold State.abandonList; split <;> rfl

/-! ### The same update twice, and updates that do nothing -/

@[simp] theorem State.hold_hold (s : State) (h g : Option (Frame × Phase)) :
    (s.hold h).hold g = s.hold g := rfl
@[simp] theorem State.setRx_setRx (s : State) (a b : Receiver) : (s.setRx a).setRx b = s.setRx b := rfl
@[simp] theorem State.setTx_setTx (s : State) (a b : Transmitter) : (s.setTx a).setTx b = s.setTx b := rfl
@[simp] theorem State.advance_advance (s : State) (a b : Stamp) :
    (s.advance a).advance b = s.advance b := rfl
@[simp] theorem State.withPending_withPending (s : State) (a b : List Instr) :
    (s.withPending a).withPending b = s.withPending b := rfl
@[simp] theorem State.withPending_self (s : State) : s.withPending s.pending = s := rfl
@[simp] theorem State.count_id (s : State) : s.count id = s := rfl
@[simp] theorem State.setRx_self (s : State) : s.setRx s.li.rx = s := rfl

end Sys2Proof.Machine
end

