-- ==== Sys2Proof/Laws/Bytes.lean ====
section
/-! SUPPORT. Reading back the fields of a body: what a one-, two- or four-byte field reads as at the
offset at which it was sent. -/

namespace Sys2Proof.Machine

@[simp] theorem u8_length (n : Nat) : (u8 n).length = 1 := rfl
@[simp] theorem u16_length (n : Nat) : (u16 n).length = 2 := rfl
@[simp] theorem u32_length (n : Nat) : (u32 n).length = 4 := rfl

/-- A byte beyond the first part of a body is a byte of the second. -/
theorem byteAt_append_right (a b : List Byte) (i : Nat) (h : a.length ≤ i) :
    byteAt (a ++ b) i = byteAt b (i - a.length) := by
  simp [byteAt, List.getD_eq_getElem?_getD, List.getElem?_append_right h]

/-- A byte within the first part of a body is a byte of that part. -/
theorem byteAt_append_left (a b : List Byte) (i : Nat) (h : i < a.length) :
    byteAt (a ++ b) i = byteAt a i := by
  simp [byteAt, List.getD_eq_getElem?_getD, List.getElem?_append_left h]

@[simp] theorem byteAt_cons_zero (c : Byte) (b : List Byte) : byteAt (c :: b) 0 = c.toNat := rfl

@[simp] theorem byteAt_cons_succ (c : Byte) (b : List Byte) (i : Nat) :
    byteAt (c :: b) (i + 1) = byteAt b i := by simp [byteAt]

/-- A byte is less than 256. -/
theorem byteAt_lt (b : List Byte) (i : Nat) : byteAt b i < 256 := (b.getD i 0).isLt

/-- A two-byte field is less than 65,536. -/
theorem wordAt_lt (b : List Byte) (i : Nat) : wordAt b i < 65536 := by
  have := byteAt_lt b i; have := byteAt_lt b (i + 1); unfold wordAt; omega

/-- A two-byte field reads as the number sent, modulo 65,536. -/
theorem wordAt_u16 (n : Nat) (b : List Byte) : wordAt (u16 n ++ b) 0 = n % 65536 := by
  simp [wordAt, u16]; omega

/-- A four-byte field reads as the number sent, modulo 2^32. -/
theorem longAt_u32 (n : Nat) (b : List Byte) : longAt (u32 n ++ b) 0 = n % 4294967296 := by
  simp [longAt, wordAt, u32, u16]; omega

end Sys2Proof.Machine
end

