-- ==== Sys2Proof/Laws/Grants.lean ====
section
/-! SUPPORT. The arbiter's operations and the numbers given out, each said once (02 R34, R36, R37). -/

namespace Sys2Proof.Machine

/-- The list found first in turn at a level claims there. -/
theorem turnAt_spec {s : State} {level : Fin 4} {k : Fin 8} (h : turnAt s level = some k) :
    listClaims s k = true ∧ listLevel s k = some level := by
  have := List.find?_some h
  simpa using this

/-- The chosen list claims, at some level (02 R37). -/
theorem chosenList_spec {s : State} {k : Fin 8} (h : chosenList s = some k) :
    listClaims s k = true ∧ ∃ level, listLevel s k = some level ∧ turnAt s level = some k := by
  unfold chosenList at h
  obtain ⟨level, -, hl⟩ := List.exists_of_findSome?_eq_some h
  exact ⟨(turnAt_spec hl).1, level, (turnAt_spec hl).2, hl⟩

/-- The turn order names every list. -/
theorem mem_turnOrder (p k : Fin 8) : k ∈ turnOrder p := by revert p k; decide

/-- Where a list with a level claims, one is chosen (02 R37). -/
theorem chosenList_isSome {s : State} {k : Fin 8} (h : listClaims s k = true)
    (hd : (listLevel s k).isSome = true) : (chosenList s).isSome = true := by
  obtain ⟨level, hl⟩ := Option.isSome_iff_exists.mp hd
  have ht : (turnAt s level).isSome = true := by
    unfold turnAt
    rw [List.find?_isSome]
    exact ⟨k, mem_turnOrder _ k, by simp [h, hl]⟩
  unfold chosenList
  rw [List.findSome?_isSome_iff]
  exact ⟨level, by clear hl ht; revert level; decide, ht⟩

/-- The three things a grant can do (02 R36, R37): nothing, the oldest ticket, or the chosen list. -/
theorem makeGrant_cases (s : State) :
    makeGrant s = s ∨
    (s.cv.state = .idle ∧ s.ca.grant = none ∧
      ∃ t rest, s.ca.queue = t :: rest ∧ makeGrant s = grantTicket s t rest) ∨
    (s.cv.state = .idle ∧ s.ca.grant = none ∧ s.ca.queue = [] ∧
      ∃ k, chosenList s = some k ∧ makeGrant s = grantList s k) := by
  unfold makeGrant
  by_cases h : (s.cv.state == .idle && s.ca.grant.isNone) = true
  · rw [if_pos h]
    simp only [Bool.and_eq_true, beq_iff_eq, Option.isNone_iff_eq_none] at h
    cases hq : s.ca.queue with
    | cons t rest => exact .inr (.inl ⟨h.1, h.2, t, rest, rfl, rfl⟩)
    | nil =>
      cases hc : chosenList s with
      | none => exact .inl rfl
      | some k => exact .inr (.inr ⟨h.1, h.2, rfl, k, rfl, rfl⟩)
  · rw [if_neg h]; exact .inl rfl

/-- The number after one in the cycle 1 to `top` is in that cycle. -/
theorem nextNumber_mem {top n : Nat} (h : 1 ≤ top) : 1 ≤ nextNumber top n ∧ nextNumber top n ≤ top := by
  unfold nextNumber; split <;> omega

/-- A number looked for from one in the cycle stays in the cycle. -/
theorem firstFree_mem (used : Nat → Bool) {top : Nat} (ht : 1 ≤ top) : ∀ fuel n : Nat, 1 ≤ n → n ≤ top →
    1 ≤ firstFree used top fuel n ∧ firstFree used top fuel n ≤ top := by
  intro fuel
  induction fuel with
  | zero => intro n h1 h2; exact ⟨h1, h2⟩
  | succ f ih =>
    intro n h1 h2
    unfold firstFree
    split
    · exact ih _ (nextNumber_mem ht).1 (nextNumber_mem ht).2
    · exact ⟨h1, h2⟩

end Sys2Proof.Machine
end

