-- ==== Sys2Proof/Laws/Line.lean ====
section
/-! SUPPORT. A frame read back from its characters, and what a run of characters does to the receiver. -/

namespace Sys2Proof.Machine

/-! ### A frame's characters -/

@[simp] theorem Frame.chars_length (f : Frame) : f.chars.length = f.body.length + 6 := by
  simp [Frame.chars, Frame.checked, u16]

/-- The characters of a frame but for its last two are those its check covers. -/
theorem Frame.chars_take (f : Frame) : f.chars.take (f.chars.length - 2) = f.checked := by
  simp [Frame.chars, Frame.checked, u16]

/-- The two check characters carry the CRC, high byte first. -/
theorem Frame.wordAt_chars (f : Frame) : wordAt f.chars (f.chars.length - 2) = f.crc.toNat := by
  have hl : f.checked.length = f.body.length + 4 := by simp [Frame.checked]
  have h : wordAt f.chars (f.body.length + 4) = wordAt (u16 f.crc.toNat) 0 := by
    simp only [wordAt, Frame.chars]
    rw [byteAt_append_right _ _ _ (by omega), byteAt_append_right _ _ _ (by omega), hl]
    simp
  have hc : f.crc.toNat < 65536 := f.crc.isLt
  have := wordAt_u16 f.crc.toNat []
  rw [List.append_nil] at this
  rw [Frame.chars_length, show f.body.length + 6 - 2 = f.body.length + 4 from by omega, h, this]
  omega

/-- A frame reads back from its characters. -/
theorem frameOf_chars (f : Frame) : frameOf f.chars = f := by
  have hb : (f.chars.drop 4).take (f.chars.length - 6) = f.body := by
    simp [Frame.chars, Frame.checked]
  have hc : BitVec.ofNat 16 (wordAt f.chars (f.chars.length - 2)) = f.crc := by
    rw [f.wordAt_chars]; simp
  unfold frameOf
  rw [hb, hc]
  rfl

/-- The length field of a frame with a body of at most 240 characters agrees (10 R159). -/
theorem frameLengthOk_chars (f : Frame) (h : f.body.length ≤ 240) : frameLengthOk f.chars = true := by
  have : byteAt f.chars 3 = f.body.length := by
    show (BitVec.ofNat 8 f.body.length).toNat = _
    simp; omega
  simp [frameLengthOk, this]

/-- A sealed frame passes the check of R160. -/
theorem frameCheckOk_seal (a c k : Byte) (b : List Byte) :
    frameCheckOk (sealFrame a c k b).chars = true := by
  simp only [frameCheckOk, frameOf_chars, Frame.chars_take, beq_iff_eq]
  rfl

/-- Each kind's code names that kind. -/
@[simp] theorem kindOf_kindCode (k : Kind) : kindOf (kindCode k) = some k := by cases k <;> rfl

/-! ### A run of characters -/

/-- The receiver's state after one good character, the counters aside. -/
theorem characterComplete_receiving (s : State) (c : Byte) (buf : List Byte)
    (hr : s.resetHeld = false) (hx : s.li.rx = .receiving buf) (hl : buf.length < 246) :
    characterComplete c true s = s.setRx (.receiving (buf ++ [c])) := by
  simp [characterComplete, hr, hx, receive, Config.maxFrame, hl]

/-- A receiver in a frame takes each further character into its buffer, up to 246 of them. -/
theorem receiveAll_receiving (cs : List Byte) :
    ∀ (buf : List Byte) (s : State), s.resetHeld = false → s.li.rx = .receiving buf →
      buf.length + cs.length ≤ 246 → receiveAll cs s = s.setRx (.receiving (buf ++ cs)) := by
  induction cs with
  | nil => intro buf s _ hx _; simp [receiveAll, ← hx]
  | cons c cs ih =>
    intro buf s hr hx hl
    rw [List.length_cons] at hl
    have h1 := characterComplete_receiving s c buf hr hx (by omega)
    have h2 := ih (buf ++ [c]) (s.setRx (.receiving (buf ++ [c]))) hr rfl (by simp; omega)
    simp only [receiveAll, List.foldl_cons] at h2 ⊢
    rw [h1, h2]
    simp

/-- A receiver that waits for a gap, or is off, ignores every good character (10 R161, R163, R167). -/
theorem characterComplete_ignored (s : State) (c : Byte)
    (hx : s.li.rx = .syncing ∨ s.li.rx = .skipping ∨ s.li.rx = .discarding ∨ s.li.rx = .off) :
    characterComplete c true s = s := by
  rcases hx with h | h | h | h <;> simp [characterComplete, h, receive] <;> intro <;> rw [← h] <;> rfl

theorem receiveAll_ignored (cs : List Byte) (s : State)
    (hx : s.li.rx = .syncing ∨ s.li.rx = .skipping ∨ s.li.rx = .discarding ∨ s.li.rx = .off) :
    receiveAll cs s = s := by
  induction cs with
  | nil => rfl
  | cons c cs ih =>
    simp only [receiveAll, List.foldl_cons] at ih ⊢
    rw [characterComplete_ignored s c hx, ih]

/-- A node held in reset takes no character (11 R170). -/
theorem receiveAll_held (cs : List Byte) (s : State) (h : s.resetHeld = true) : receiveAll cs s = s := by
  induction cs with
  | nil => rfl
  | cons c cs ih =>
    simp only [receiveAll, List.foldl_cons] at ih ⊢
    rw [show characterComplete c true s = s by simp [characterComplete, h], ih]

/-- A gap outside a frame makes the receiver READY (10 R161, R163). -/
theorem gap_between (s : State) (h : s.resetHeld = false)
    (hx : s.li.rx = .syncing ∨ s.li.rx = .ready ∨ s.li.rx = .skipping ∨ s.li.rx = .discarding) :
    gap s = s.setRx .ready := by
  rcases hx with hx | hx | hx | hx <;> simp [gap, h, hx]

/-- A gap inside a frame ends the frame (10 R162). -/
theorem gap_receiving (s : State) (buf : List Byte) (h : s.resetHeld = false)
    (hx : s.li.rx = .receiving buf) : gap s = endFrame buf (s.setRx .ready) := by
  simp [gap, h, hx]

/-- A first character that is the node's own address or 31 begins a frame, and the rest of the
characters follow it into the buffer (10 R162). -/
theorem receiveAll_ready (c : Byte) (cs : List Byte) (s : State) (hr : s.resetHeld = false)
    (hx : s.li.rx = .ready) (hc : ownAddress s.li.straps c = true ∨ c = broadcastAddress)
    (hl : cs.length ≤ 245) : receiveAll (c :: cs) s = s.setRx (.receiving (c :: cs)) := by
  have h1 : characterComplete c true s = s.setRx (.receiving [c]) := by
    simp [characterComplete, hr, hx, receive, hc]
  have h2 := receiveAll_receiving cs [c] (s.setRx (.receiving [c])) hr rfl (by simp; omega)
  simp only [receiveAll, List.foldl_cons] at h2 ⊢
  rw [h1, h2]
  rfl

end Sys2Proof.Machine
end

