-- ==== Sys2Proof/Laws/Lists.lean ====
section
/-! SUPPORT. What the Scan Engine's runs and the grants leave alone. Everything a list does on the way
changes only list records (and no definition), the arbiter, the converter's state and the notice queue;
`OnlyLists` says so once, and each shared operation has one lemma. -/

namespace Sys2Proof.Machine

/-- `t` differs from `s` at most in the lists' records but for their definitions, the arbiter, the
converter's state, and the notice queue. -/
structure State.OnlyLists (s t : State) : Prop where
  steps : t.se.steps = s.se.steps
  defns : ∀ k, (t.list k).defn = (s.list k).defn
  settings : t.cv.settings = s.cv.settings
  rs : t.rs = s.rs
  wu : t.wu = s.wu
  tcu : t.tcu = s.tcu
  ou : t.ou = s.ou
  su : t.su = s.su
  rh : t.rh = s.rh
  li : t.li = s.li
  nc : t.nc = s.nc
  resetHeld : t.resetHeld = s.resetHeld
  free : t.free = s.free
  pending : t.pending = s.pending

theorem State.OnlyLists.refl (s : State) : s.OnlyLists s := by constructor <;> simp

theorem State.OnlyLists.trans {s t u : State} (h : s.OnlyLists t) (g : t.OnlyLists u) :
    s.OnlyLists u where
  steps := g.steps.trans h.steps
  defns k := (g.defns k).trans (h.defns k)
  settings := g.settings.trans h.settings
  rs := g.rs.trans h.rs
  wu := g.wu.trans h.wu
  tcu := g.tcu.trans h.tcu
  ou := g.ou.trans h.ou
  su := g.su.trans h.su
  rh := g.rh.trans h.rh
  li := g.li.trans h.li
  nc := g.nc.trans h.nc
  resetHeld := g.resetHeld.trans h.resetHeld
  free := g.free.trans h.free
  pending := g.pending.trans h.pending

/-- The present stamp is among what is left alone. -/
theorem State.OnlyLists.now {s t : State} (h : s.OnlyLists t) : t.now = s.now := by
  unfold State.now; rw [h.tcu]

/-- So is a list's flag, which its definition gives. -/
theorem State.OnlyLists.listFlag {s t : State} (h : s.OnlyLists t) (k : Fin 8) (f : ListDef → Bool) :
    t.listFlag k f = s.listFlag k f := by unfold State.listFlag; rw [h.defns]

/-! ### The updates -/

theorem updList_only (s : State) (k : Fin 8) (f : ListRecord → ListRecord)
    (hf : (f (s.list k)).defn = (s.list k).defn) : s.OnlyLists (s.updList k f) := by
  constructor <;> try rfl
  intro j
  rw [State.list_updList]
  split
  · next h => subst h; exact hf
  · rfl

theorem raise_only (s : State) (b : NoticeBody) : s.OnlyLists (s.raise b) := by
  constructor <;> intros <;> rfl

theorem raiseIf_only (s : State) (c : Bool) (b : NoticeBody) : s.OnlyLists (s.raiseIf c b) := by
  cases c
  · exact .refl s
  · exact raise_only s b

theorem abandon_only (s : State) : s.OnlyLists s.abandon := by constructor <;> intros <;> rfl

theorem abandonList_only (s : State) (k : Fin 8) : s.OnlyLists (s.abandonList k) := by
  unfold State.abandonList; split
  · exact abandon_only s
  · exact .refl s

theorem giveConverter_only (s : State) (o : Owner) (c : Fin 16) (g : OptGroup) :
    s.OnlyLists (s.giveConverter o c g) := by constructor <;> intros <;> rfl

/-! ### Grants -/

theorem grantTicket_only (s : State) (t : Ticket) (rest : List Ticket) :
    s.OnlyLists (grantTicket s t rest) := by constructor <;> intros <;> rfl

theorem grantList_only (s : State) (k : Fin 8) : s.OnlyLists (grantList s k) := by
  unfold grantList; split
  · refine .trans (t := { s with ca := _ }) ?_ (.trans (updList_only _ _ _ rfl) (giveConverter_only ..))
    constructor <;> intros <;> rfl
  · exact .refl s

theorem makeGrant_only (s : State) : s.OnlyLists (makeGrant s) := by
  unfold makeGrant; split
  · split
    · exact grantTicket_only ..
    · split
      · exact grantList_only ..
      · exact .refl s
  · exact .refl s

theorem grantUnless_only (closing : Bool) (s : State) : s.OnlyLists (grantUnless closing s) := by
  cases closing
  · exact makeGrant_only s
  · exact .refl s

/-! ### Steps and runs -/

theorem beginStep_only (closing : Bool) (k : Fin 8) (s : State) :
    s.OnlyLists (beginStep closing k s) := by
  unfold beginStep; split
  · exact .trans (updList_only _ _ _ rfl) (grantUnless_only ..)
  · exact updList_only _ _ _ rfl
  · exact updList_only _ _ _ rfl
  · exact .refl s

theorem startRun_only (closing : Bool) (k : Fin 8) (s : State) :
    s.OnlyLists (startRun closing k s) := by
  unfold startRun; exact .trans (updList_only _ _ _ rfl) (beginStep_only ..)

theorem leaveConverter_only (k : Fin 8) (s : State) : s.OnlyLists (leaveConverter k s) := by
  unfold leaveConverter; split
  · exact .trans (updList_only _ _ _ rfl) (abandonList_only ..)
  · exact .refl s

theorem closeRun_only (k : Fin 8) (reason : EndReason) (s : State) :
    s.OnlyLists (closeRun k reason s) := by
  unfold closeRun
  exact .trans (leaveConverter_only k s) (.trans (updList_only _ _ _ rfl) (raiseIf_only ..))

theorem retrigger_only (closing : Bool) (k : Fin 8) (p : Policy) (s : State) :
    s.OnlyLists (retrigger closing k p s) := by
  unfold retrigger; split
  · exact updList_only _ _ _ rfl
  · exact updList_only _ _ _ rfl
  · exact .trans (closeRun_only ..) (.trans (startRun_only ..) (grantUnless_only ..))

theorem takeTrigger_only (closing : Bool) (src : TriggerSource) (k : Fin 8) (s : State) :
    s.OnlyLists (takeTrigger closing src k s) := by
  unfold takeTrigger; split
  · exact .refl s
  · split
    · split
      · exact startRun_only ..
      · exact retrigger_only ..
      · exact retrigger_only ..
      · exact .refl s
      · exact .refl s
    · exact .refl s

/-- A fold of operations that each leave the rest alone leaves it alone. -/
theorem foldl_only {α : Type} (f : State → α → State) (hf : ∀ (s : State) a, s.OnlyLists (f s a)) :
    ∀ (l : List α) (s : State), s.OnlyLists (l.foldl f s)
  | [], s => .refl s
  | a :: l, s => .trans (hf s a) (foldl_only f hf l (f s a))

theorem deliver_only (closing : Bool) (src : TriggerSource) (s : State) :
    s.OnlyLists (deliver closing src s) := foldl_only _ (fun _ _ => takeTrigger_only ..) _ s

theorem chain_only (closing : Bool) (k : Fin 8) (s : State) : s.OnlyLists (chain closing k s) := by
  have hd := deliver_only closing (.listDone k) s
  unfold chain
  generalize deliver closing (.listDone k) s = t at hd ⊢
  dsimp only; split
  · exact hd.trans (.trans (updList_only _ _ _ rfl) (startRun_only ..))
  · exact hd

theorem endRun_only (closing : Bool) (k : Fin 8) (reason : EndReason) (s : State) :
    s.OnlyLists (endRun closing k reason s) := by
  unfold endRun; dsimp only; split
  · exact .trans (closeRun_only ..) (chain_only ..)
  · exact closeRun_only ..

theorem countPass_only (d : ListDef) (k : Fin 8) (s : State) : s.OnlyLists (countPass d k s) := by
  unfold countPass; exact .trans (updList_only _ _ _ rfl) (raiseIf_only ..)

theorem nextPass_only (closing : Bool) (k : Fin 8) (s : State) :
    s.OnlyLists (nextPass closing k s) := by
  unfold nextPass; exact .trans (updList_only _ _ _ rfl) (beginStep_only ..)

theorem restOrOverrun_only (closing : Bool) (d : ListDef) (k : Fin 8) (s : State) :
    s.OnlyLists (restOrOverrun closing d k s) := by
  unfold restOrOverrun; dsimp only; split
  · exact updList_only _ _ _ rfl
  · exact .trans (updList_only _ _ _ rfl) (.trans (raiseIf_only ..) (nextPass_only ..))

theorem endPass_only (closing : Bool) (d : ListDef) (k : Fin 8) (s : State) :
    s.OnlyLists (endPass closing d k s) := by
  unfold endPass; dsimp only
  refine .trans (countPass_only d k s) ?_
  split
  · exact endRun_only ..
  · split
    · exact endRun_only ..
    · split
      · exact nextPass_only ..
      · exact restOrOverrun_only ..

theorem finishStep_only (closing : Bool) (k : Fin 8) (s : State) :
    s.OnlyLists (finishStep closing k s) := by
  unfold finishStep; split
  · exact .refl s
  · dsimp only; split
    · exact .trans (updList_only _ _ _ rfl) (beginStep_only ..)
    · exact .trans (updList_only _ _ _ rfl) (endPass_only ..)

/-! ### Records, preemption, edges, and the node leaving RUN -/

theorem endOnDrop_only (closing : Bool) (d : ListDef) (k : Fin 8) (s : State) :
    s.OnlyLists (endOnDrop closing d k s) := by
  unfold endOnDrop; dsimp only; split
  · exact .trans (updList_only _ _ _ rfl) (endRun_only ..)
  · exact .trans (updList_only _ _ _ rfl) (.trans (countPass_only ..) (endRun_only ..))

theorem recordToList_only (k : Fin 8) (dropped : Bool) (s : State) :
    s.OnlyLists (recordToList k dropped s) := by
  unfold recordToList; split
  · refine .trans (updList_only s k (fun l => { l with inFlight := false }) rfl) ?_
    dsimp only; split
    · exact .refl _
    · split
      · exact endOnDrop_only ..
      · exact finishStep_only ..
  · exact .refl s

theorem listPreempted_only (k : Fin 8) (s : State) : s.OnlyLists (listPreempted k s) :=
  updList_only _ _ _ rfl

theorem markWaiting_only (input : Fin 4) (s : State) : s.OnlyLists (markWaiting input s) := by
  refine foldl_only _ (fun t k => ?_) _ s
  split
  · exact updList_only _ _ _ rfl
  · exact .refl t

theorem finishWaiting_only (s : State) : s.OnlyLists (finishWaiting s) := by
  refine foldl_only _ (fun t k => ?_) _ s
  split
  · exact finishStep_only ..
  · exact .refl t

theorem disarm_only (k : Fin 8) (reason : EndReason) (s : State) : s.OnlyLists (disarm k reason s) := by
  unfold disarm; exact .trans (updList_only _ _ _ rfl) (raiseIf_only ..)

theorem endForNode_only (reason : EndReason) (k : Fin 8) (s : State) :
    s.OnlyLists (endForNode reason k s) := by
  unfold endForNode; split
  · exact endRun_only ..
  · exact endRun_only ..
  · exact disarm_only ..
  · exact .refl s
  · exact .refl s

theorem endAllLists_only (reason : EndReason) (s : State) : s.OnlyLists (endAllLists reason s) :=
  .trans (foldl_only _ (fun _ _ => endForNode_only ..) _ s) (makeGrant_only _)

/-- Placing a ticket's consequences: a preemption and a grant. -/
theorem afterPlacing_only (s : State) : s.OnlyLists (afterPlacing s) := by
  unfold afterPlacing; split
  · exact .trans (abandon_only s) (.trans (listPreempted_only ..) (makeGrant_only _))
  · exact makeGrant_only s

end Sys2Proof.Machine
end

