-- ==== Sys2Proof/Laws/Notices.lean ====
section
/-! SUPPORT. The notice queue's operations, each said once (08 R129 to R136). -/

namespace Sys2Proof.Machine

@[simp] theorem NoticeQueue.append_notices (q : NoticeQueue) (now : Stamp) (b : NoticeBody) :
    (q.append now b).notices =
      q.notices ++ [{ seq := q.nextSeq, stamp := now, body := b, delivered := false }] := rfl
@[simp] theorem NoticeQueue.append_nextSeq (q : NoticeQueue) (now : Stamp) (b : NoticeBody) :
    (q.append now b).nextSeq = nextNoticeSeq q.nextSeq := rfl
@[simp] theorem NoticeQueue.append_lost (q : NoticeQueue) (now : Stamp) (b : NoticeBody) :
    (q.append now b).lost = q.lost := rfl
@[simp] theorem NoticeQueue.appendLost_notices (q : NoticeQueue) (now first : Stamp) (n : Nat) :
    (q.appendLost now n first).notices = (q.append now (.noticesLost n first)).notices := rfl
@[simp] theorem NoticeQueue.appendLost_nextSeq (q : NoticeQueue) (now first : Stamp) (n : Nat) :
    (q.appendLost now n first).nextSeq = nextNoticeSeq q.nextSeq := rfl
@[simp] theorem NoticeQueue.appendLost_lost (q : NoticeQueue) (now first : Stamp) (n : Nat) :
    (q.appendLost now n first).lost =
      some { lost := n, first := first, carried := 0, firstUncarried := some first } := rfl

/-- Counting a loss leaves a notice's sequence, and whether it is delivered and a NOTICES_LOST. -/
@[simp] theorem Notice.countLoss_seq (n : Notice) : n.countLoss.seq = n.seq := by
  unfold Notice.countLoss; split <;> rfl
@[simp] theorem Notice.countLoss_stamp (n : Notice) : n.countLoss.stamp = n.stamp := by
  unfold Notice.countLoss; split <;> rfl
@[simp] theorem Notice.countLoss_delivered (n : Notice) : n.countLoss.delivered = n.delivered := by
  unfold Notice.countLoss; split <;> rfl
@[simp] theorem Notice.countLoss_isLost (n : Notice) : n.countLoss.isLost = n.isLost := by
  unfold Notice.countLoss
  split
  · next h => simp [Notice.isLost, h]
  · rfl

/-- Any notice but a NOTICES_LOST is left whole. -/
theorem Notice.countLoss_of_not_lost {n : Notice} (h : n.isLost = false) : n.countLoss = n := by
  unfold Notice.countLoss; split
  · simp_all [Notice.isLost]
  · rfl

/-- Whether a NOTICES_LOST is queued, after a notice more. -/
@[simp] theorem NoticeQueue.append_hasLost (q : NoticeQueue) (now : Stamp) (b : NoticeBody) :
    (q.append now b).hasLost = (q.hasLost || Notice.isLost ⟨q.nextSeq, now, b, false⟩) := by
  simp [NoticeQueue.hasLost]

/-- The three things raising a notice can do: append it, append the first NOTICES_LOST, or count into
the one that is queued (08 R129, R130). -/
theorem NoticeQueue.raise_cases (q : NoticeQueue) (now : Stamp) (b : NoticeBody) :
    (q.hasRoom = true ∧ q.raise now b = q.append now b) ∨
    (q.hasRoom = false ∧ q.hasLost = false ∧ q.raise now b = q.appendLost now 1 now) ∨
    (q.hasRoom = false ∧ q.hasLost = true ∧ q.raise now b = { q with
      notices := q.notices.map Notice.countLoss, lost := q.lost.map fun r => r.countLoss now }) := by
  unfold NoticeQueue.raise NoticeQueue.lose
  cases q.hasRoom <;> cases q.hasLost <;> simp

/-- Room is at most 31 notices with a NOTICES_LOST, at most 30 without (08 R129). -/
theorem NoticeQueue.hasRoom_iff (q : NoticeQueue) :
    q.hasRoom = true ↔
      (q.hasLost = true ∧ q.notices.length ≤ 31) ∨ (q.hasLost = false ∧ q.notices.length ≤ 30) := by
  unfold NoticeQueue.hasRoom Config.noticeSize
  cases q.hasLost <;> simp <;> omega

/-- The three things an acknowledgement can do: nothing for 0, nothing but the flag for one that matches
no delivered notice, or remove through the first that matches (08 R133, R136). -/
theorem NoticeQueue.acknowledge_cases (q : NoticeQueue) (now : Stamp) (a : Nat) :
    (a = 0 ∧ q.acknowledge now a = (q, false)) ∨
    (a ≠ 0 ∧ (q.notices.findIdx? fun n => n.delivered && n.seq == a) = none ∧
      q.acknowledge now a = (q, true)) ∨
    ∃ i, a ≠ 0 ∧ (q.notices.findIdx? fun n => n.delivered && n.seq == a) = some i ∧
      q.acknowledge now a =
        (if (q.notices.take (i + 1)).any Notice.isLost then
          { q with notices := q.notices.drop (i + 1) }.carryOver now
        else { q with notices := q.notices.drop (i + 1) }, false) := by
  unfold NoticeQueue.acknowledge
  by_cases ha : a = 0
  · simp [ha]
  · simp only [ha, if_false, ne_eq, not_false_eq_true, true_and, false_and, false_or]
    split
    · next h => exact .inl ⟨h, rfl⟩
    · next i h => exact .inr ⟨i, h, rfl⟩

/-- What a reply carries is a run from the oldest, no longer than the maximum count. -/
theorem carriedNotices_take (l : List Notice) : ∀ most room : Nat,
    carriedNotices most room l = l.take (carriedNotices most room l).length ∧
      (carriedNotices most room l).length ≤ most := by
  induction l with
  | nil => intro most room; cases most <;> simp [carriedNotices]
  | cons n l ih =>
    intro most room
    cases most with
    | zero => simp [carriedNotices]
    | succ m =>
      simp only [carriedNotices]
      split
      · have := ih m (room - (8 + n.body.bytes.length))
        exact ⟨by simpa using this.1, by simpa using this.2⟩
      · simp

end Sys2Proof.Machine
end

