-- ==== Sys2Proof/Laws/PerInstr.lean ====
section
/-! SUPPORT. What holds of every command as syntax, one lemma for each: the request a command carries,
where it carries one, goes out in a frame whose kind character names the command's own kind
(12 §12.5), and the command is well formed exactly when that request is. -/

namespace Sys2Proof.Laws

open Sys2Proof.Machine

/-- A command that carries a request sends a frame whose kind character names its kind, and is well
formed exactly when the request is; one that carries none is well formed. -/
def RequestKind.Statement (i : Instr) : Prop :=
  (∀ k r, i.request = some (k, r) →
    kindOf (requestFrame k r).kind = some k ∧ i.wellFormed = r.wellFormed) ∧
  (i.request = none → i.wellFormed = true)

/-- The statement for a command that carries a request. -/
theorem requestKind_request {i : Instr} {k : Kind} {r : Req} (h : i.request = some (k, r)) :
    RequestKind.Statement i := by
  refine ⟨fun k' r' h' => ?_, fun h' => by simp [h] at h'⟩
  rw [h] at h'
  cases h'
  exact ⟨kindOf_kindCode k, by simp [Instr.wellFormed, h]⟩

/-- The statement for a command that carries none. -/
theorem requestKind_event {i : Instr} (h : i.request = none) : RequestKind.Statement i :=
  ⟨fun _ _ h' => by simp [h] at h', fun _ => by simp [Instr.wellFormed, h]⟩

theorem RequestKind.por (straps : Straps) : RequestKind.Statement (.por straps) := requestKind_event rfl
theorem RequestKind.pinReset : RequestKind.Statement .pinReset := requestKind_event rfl
theorem RequestKind.pinRelease (straps : Straps) : RequestKind.Statement (.pinRelease straps) := requestKind_event rfl
theorem RequestKind.calibrationEnd : RequestKind.Statement .calibrationEnd := requestKind_event rfl
theorem RequestKind.gap : RequestKind.Statement .gap := requestKind_event rfl
theorem RequestKind.sendingStart : RequestKind.Statement .sendingStart := requestKind_event rfl
theorem RequestKind.sendingEnd : RequestKind.Statement .sendingEnd := requestKind_event rfl
theorem RequestKind.identify (r : Req) : RequestKind.Statement (.identify r) := requestKind_request rfl
theorem RequestKind.echo (r : Req) : RequestKind.Statement (.echo r) := requestKind_request rfl
theorem RequestKind.status (r : Req) : RequestKind.Statement (.status r) := requestKind_request rfl
theorem RequestKind.go (r : Req) : RequestKind.Statement (.go r) := requestKind_request rfl
theorem RequestKind.halt (r : Req) : RequestKind.Statement (.halt r) := requestKind_request rfl
theorem RequestKind.restart (r : Req) : RequestKind.Statement (.restart r) := requestKind_request rfl
theorem RequestKind.setSilence (r : Req) : RequestKind.Statement (.setSilence r) := requestKind_request rfl
theorem RequestKind.mark (r : Req) : RequestKind.Statement (.mark r) := requestKind_request rfl
theorem RequestKind.setChannel (r : Req) : RequestKind.Statement (.setChannel r) := requestKind_request rfl
theorem RequestKind.convert (r : Req) : RequestKind.Statement (.convert r) := requestKind_request rfl
theorem RequestKind.cancelConvert (r : Req) : RequestKind.Statement (.cancelConvert r) := requestKind_request rfl
theorem RequestKind.writeSteps (r : Req) : RequestKind.Statement (.writeSteps r) := requestKind_request rfl
theorem RequestKind.readSteps (r : Req) : RequestKind.Statement (.readSteps r) := requestKind_request rfl
theorem RequestKind.defineList (r : Req) : RequestKind.Statement (.defineList r) := requestKind_request rfl
theorem RequestKind.startList (r : Req) : RequestKind.Statement (.startList r) := requestKind_request rfl
theorem RequestKind.stopList (r : Req) : RequestKind.Statement (.stopList r) := requestKind_request rfl
theorem RequestKind.listStatus (r : Req) : RequestKind.Statement (.listStatus r) := requestKind_request rfl
theorem RequestKind.clearList (r : Req) : RequestKind.Statement (.clearList r) := requestKind_request rfl
theorem RequestKind.readLatest (r : Req) : RequestKind.Statement (.readLatest r) := requestKind_request rfl
theorem RequestKind.readFifo (r : Req) : RequestKind.Statement (.readFifo r) := requestKind_request rfl
theorem RequestKind.fifoStatus (r : Req) : RequestKind.Statement (.fifoStatus r) := requestKind_request rfl
theorem RequestKind.clearFifo (r : Req) : RequestKind.Statement (.clearFifo r) := requestKind_request rfl
theorem RequestKind.setFifoLevel (r : Req) : RequestKind.Statement (.setFifoLevel r) := requestKind_request rfl
theorem RequestKind.setWatch (r : Req) : RequestKind.Statement (.setWatch r) := requestKind_request rfl
theorem RequestKind.clearWatch (r : Req) : RequestKind.Statement (.clearWatch r) := requestKind_request rfl
theorem RequestKind.watchStatus (r : Req) : RequestKind.Statement (.watchStatus r) := requestKind_request rfl
theorem RequestKind.readStamp (r : Req) : RequestKind.Statement (.readStamp r) := requestKind_request rfl
theorem RequestKind.setCapture (r : Req) : RequestKind.Statement (.setCapture r) := requestKind_request rfl
theorem RequestKind.readCaptures (r : Req) : RequestKind.Statement (.readCaptures r) := requestKind_request rfl
theorem RequestKind.schedule (r : Req) : RequestKind.Statement (.schedule r) := requestKind_request rfl
theorem RequestKind.cancelAction (r : Req) : RequestKind.Statement (.cancelAction r) := requestKind_request rfl
theorem RequestKind.scheduleStatus (r : Req) : RequestKind.Statement (.scheduleStatus r) := requestKind_request rfl
theorem RequestKind.setOutput (r : Req) : RequestKind.Statement (.setOutput r) := requestKind_request rfl
theorem RequestKind.setSafeLevels (r : Req) : RequestKind.Statement (.setSafeLevels r) := requestKind_request rfl
theorem RequestKind.outputStatus (r : Req) : RequestKind.Statement (.outputStatus r) := requestKind_request rfl
theorem RequestKind.poll (r : Req) : RequestKind.Statement (.poll r) := requestKind_request rfl
theorem RequestKind.checkEnd (charged discharged : BitVec 12) : RequestKind.Statement (.checkEnd charged discharged) := requestKind_event rfl
theorem RequestKind.settleEnd : RequestKind.Statement .settleEnd := requestKind_event rfl
theorem RequestKind.sampleEnd (level : BitVec 12) : RequestKind.Statement (.sampleEnd level) := requestKind_event rfl
theorem RequestKind.waitExpiry (k : Fin 8) : RequestKind.Statement (.waitExpiry k) := requestKind_event rfl
theorem RequestKind.awaitTimeout (k : Fin 8) : RequestKind.Statement (.awaitTimeout k) := requestKind_event rfl
theorem RequestKind.restStamp (k : Fin 8) : RequestKind.Statement (.restStamp k) := requestKind_event rfl
theorem RequestKind.capturePinChange (k : Fin 4) (v : Level) : RequestKind.Statement (.capturePinChange k v) := requestKind_event rfl
theorem RequestKind.debounceEnd (k : Fin 4) : RequestKind.Statement (.debounceEnd k) := requestKind_event rfl
theorem RequestKind.actionFiring : RequestKind.Statement .actionFiring := requestKind_event rfl
theorem RequestKind.silenceExpiry : RequestKind.Statement .silenceExpiry := requestKind_event rfl
theorem RequestKind.characterComplete (value : Byte) (good : Bool) : RequestKind.Statement (.characterComplete value good) := requestKind_event rfl

end Sys2Proof.Laws
end

