-- ==== Sys2Proof/Laws/Requests.lean ====
section
/-! SUPPORT. A host's whole frame on its way to the Request Handler. -/

namespace Sys2Proof.Machine

/-- Every request command is its frame sent whole by a host (log 1). -/
theorem exec_request (i : Instr) (k : Kind) (r : Req) (s : State) (h : i.request = some (k, r)) :
    exec i s = .next (hostSends k r s) := by
  cases i <;> simp [Instr.request] at h <;> obtain ⟨rfl, rfl⟩ := h <;> rfl

/-- The node's own address is the strapped address of a node that is not listen-only (10 R157, R162). -/
theorem ownAddress_eq (t : Straps) (c : Byte) : ownAddress t c = addressedTo t c := by
  obtain ⟨a, r⟩ := t
  have ha : a.toNat < 32 := a.isLt
  have h0 : (a = 0) ↔ a.toNat = 0 := by
    constructor <;> intro h <;> [simp [h]; exact BitVec.eq_of_toNat_eq (by simpa using h)]
  have h31 : (a = 31) ↔ a.toNat = 31 := by
    constructor <;> intro h <;> [simp [h]; exact BitVec.eq_of_toNat_eq (by simpa using h)]
  rw [Bool.eq_iff_iff]
  simp only [ownAddress, listenOnly, addressedTo, Bool.and_eq_true, Bool.not_eq_true',
    Bool.or_eq_false_iff, beq_eq_false_iff_ne, ne_eq, beq_iff_eq, h0, h31, decide_eq_true_eq]
  omega

/-- The four receiver states outside a frame. -/
theorem betweenFrames_cases {x : Receiver} (h : x.betweenFrames = true) :
    x = .syncing ∨ x = .ready ∨ x = .skipping ∨ x = .discarding := by
  cases x <;> simp_all [Receiver.betweenFrames]

/-- The first character of a request frame is its address. -/
theorem requestFrame_chars (k : Kind) (r : Req) :
    ∃ cs, (requestFrame k r).chars = r.address :: cs ∧ cs.length = r.body.length + 5 :=
  ⟨_, rfl, by simp [requestFrame, sealFrame, u16]⟩

/-- What the delivery of a good frame does before its Request Handler takes it. -/
theorem heard_eq (s : State) :
    restartTimer ((s.setRx .ready).count fun c => { c with good := saturate (c.good + 1) }) = s.heard := by
  have key : ∀ t : State, restartTimer t = { t with nc := { t.nc with
      timer := if t.nc.state = .run ∧ t.nc.silence ≠ 0 then
        some (t.now + BitVec.ofNat 32 (1000 * t.nc.silence)) else t.nc.timer } } := by
    intro t; unfold restartTimer; split <;> rfl
  rw [key]; rfl

/-- A frame that a node is free to take and that is for it, or for all, reaches its Request Handler. -/
theorem hostSends_delivered (k : Kind) (r : Req) (s : State) (hf : s.Free r)
    (ha : addressedTo s.li.straps r.address = true ∨ r.address = broadcastAddress) :
    hostSends k r s = if (requestFrame k r).address == broadcastAddress
      then takeBroadcast (requestFrame k r) s.heard else takeAddressed (requestFrame k r) s.heard := by
  obtain ⟨h1, h2, h3, h4⟩ := hf
  obtain ⟨cs, hc, hl⟩ := requestFrame_chars k r
  have hb : (requestFrame k r).body.length ≤ 240 := h4
  unfold hostSends
  rw [gap_between s h1 (betweenFrames_cases h3), hc,
    receiveAll_ready r.address cs (s.setRx .ready) h1 rfl (by rw [ownAddress_eq]; exact ha) (by omega),
    gap_receiving ((s.setRx .ready).setRx (.receiving (r.address :: cs))) (r.address :: cs) h1 rfl, ← hc]
  unfold endFrame deliverFrame
  have hh : (s.setRx .ready).rh.inHand.isSome = false := by simp [h2]
  have hk : frameCheckOk (requestFrame k r).chars = true := frameCheckOk_seal ..
  simp only [State.setRx_setRx, hh, frameLengthOk_chars _ hb, hk, frameOf_chars, Bool.not_true,
    Bool.false_eq_true, if_false, heard_eq]

end Sys2Proof.Machine
end

