-- ==== Sys2Proof/Laws/Time.lean ====
section
/-! SUPPORT. What happens in time: a due stamp reached, and a step with no command waiting. Each lemma
says once everything its operation can do. -/

namespace Sys2Proof.Machine

/-- What is due at no stamp does not happen. -/
@[simp] theorem State.whenDue_none (s : State) (f : State → State) : s.whenDue none f = s := rfl

/-- What is due next happens at its stamp (log 2). -/
theorem State.whenDue_due {s : State} {d : Stamp} (f : State → State) (hr : s.resetHeld = false)
    (hd : s.reaches d = true) : s.whenDue (some d) f = f (s.advance d) := by
  simp [State.whenDue, hr, hd]

/-- What is due after something else, or while the node is held, does not happen (log 2). -/
theorem State.whenDue_not {s : State} {d : Stamp} (f : State → State)
    (h : s.resetHeld = true ∨ s.reaches d = false) : s.whenDue (some d) f = s := by
  rcases h with h | h <;> simp [State.whenDue, h]

/-- The two things a due stamp can lead to: nothing, or the event at its stamp with nothing else due
before it. -/
theorem State.whenDue_cases (s : State) (due : Option Stamp) (f : State → State) :
    s.whenDue due f = s ∨
    ∃ d, due = some d ∧ s.resetHeld = false ∧ s.reaches d = true ∧ s.whenDue due f = f (s.advance d) := by
  cases due with
  | none => exact .inl rfl
  | some d =>
    cases hr : s.resetHeld
    · cases hd : s.reaches d
      · exact .inl (State.whenDue_not f (.inr hd))
      · exact .inr ⟨d, rfl, rfl, hd, State.whenDue_due f hr hd⟩
    · exact .inl (State.whenDue_not f (.inl hr))

/-- A stamp that is reached lies no further ahead than any other due stamp. -/
theorem State.reaches_le {s : State} {d x : Stamp} (h : s.reaches d = true) (hx : x ∈ s.dueStamps) :
    distance s.now d ≤ distance s.now x := by
  unfold State.reaches at h
  rw [List.all_eq_true] at h
  exact of_decide_eq_true (h x hx)

/-- The event taken by a node with no command waiting is one of those due now, on a node that runs
(log 3). -/
theorem nextEvent_mem {s : State} {i : Instr} (h : nextEvent s = some i) :
    s.resetHeld = false ∧ i ∈ eventsNow s := by
  unfold nextEvent at h
  split at h
  · cases h
  · refine ⟨by simpa using ‹¬s.resetHeld = true›, ?_⟩
    revert h
    cases he : eventsNow s with
    | nil => simp
    | cons a l => cases l with
      | nil => simp only [List.mem_singleton]; rintro ⟨⟩; rfl
      | cons b l =>
        intro h
        cases h
        rw [List.getD_eq_getElem _ _ (by simpa using Nat.mod_lt _ (Nat.succ_pos _))]
        exact List.getElem_mem _

/-- The two things a step with no command waiting can do: an event due now, with the free counter moved
on, or one microsecond (log 2, 3). -/
theorem idleStep_cases (s : State) :
    idleStep s = .next (tick s) ∨ ∃ i ∈ eventsNow s, s.resetHeld = false ∧ idleStep s = exec i s.useFree := by
  unfold idleStep
  split
  · next i h =>
      have := nextEvent_mem h
      exact .inr ⟨i, this.2, this.1, rfl⟩
  · exact .inl rfl

/-- A step runs the command at the front, or what the node does by itself. -/
theorem step_idle {s : State} (h : s.pending = []) : step s = idleStep s := by
  unfold step; rw [h]

end Sys2Proof.Machine
end

