-- ==== Sys2Proof/Laws/Watches.lean ====
section
/-! SUPPORT. A watch's running state keeps its shape (05 R80): what an OPEN record, a record that points
to a zone, and a fresh definition leave is sound. -/

namespace Sys2Proof.Machine

/-- An entry with its pending zone dropped is sound (05 R82). -/
theorem WatchEntry.Sound.settle {e : WatchEntry} (h : e.Sound) : e.settle.Sound where
  limits := h.limits
  hysteresis := h.hysteresis
  confirm := h.confirm
  differs := nofun
  counting := ⟨fun _ => rfl, fun _ => rfl⟩
  unconfirmed := h.confirm.1
  unnumbered := h.unnumbered

/-- The records in a row that point to a zone are one more than were counted, at most, and at least
one (05 R84). -/
theorem agreeing_range (e : WatchEntry) (c : Zone) : 1 ≤ agreeing e c ∧ agreeing e c ≤ e.count + 1 := by
  unfold agreeing; split <;> omega

/-- An entry to whose zone or to another a record points is sound after it (05 R84). -/
theorem WatchEntry.Sound.confirmZone {e : WatchEntry} (h : e.Sound) (c : Zone) (seq : BitVec 16) :
    (confirmZone e c seq).1.Sound := by
  have range := agreeing_range e c
  have below := h.unconfirmed
  unfold Machine.confirmZone
  split
  · exact h.settle
  · next other =>
    split
    · exact ⟨h.limits, h.hysteresis, h.confirm, nofun, ⟨fun _ => rfl, fun _ => rfl⟩, h.confirm.1, nofun⟩
    · next unconfirmed =>
      exact ⟨h.limits, h.hysteresis, h.confirm, fun z hz => Option.some.inj hz ▸ other,
        ⟨fun hc => absurd hc (by show agreeing e c ≠ 0; omega), nofun⟩,
        by show agreeing e c < e.defn.confirm; omega, h.unnumbered⟩

/-- A definition in range with a running state of UNKNOWN is sound (05 R79, R91). -/
theorem WatchEntry.fresh_sound {d : WatchDef} (limits : d.low < d.high ∧ d.high ≤ 4095)
    (hysteresis : d.hysteresis ≤ (d.high - d.low) / 2) (confirm : 1 ≤ d.confirm ∧ d.confirm ≤ 15) :
    (WatchEntry.fresh d).Sound :=
  ⟨limits, hysteresis, confirm, nofun, ⟨fun _ => rfl, fun _ => rfl⟩, confirm.1, fun _ => rfl⟩

end Sys2Proof.Machine
end

