-- ==== Sys2Proof/Tests/Slice0.lean ====
section
/-! SUPPORT. The package's own tests: the smoke test of WellFormed, a few words and frames written out
from chapter 12, single steps of the manual's worked sequences, and for every statement that has
hypotheses a theorem `test_witness_<name>` that shows a state and operands that meet them, at the
edges of its clauses. Expected values are the manual's; each test names the place. -/

namespace Sys2Proof.Tests

-- One test at a time: the kernel's evaluations side by side take more threads than the checker allows.
set_option Elab.async false

open Sys2Proof.Machine

/-! ### Small states -/

/-- The node of chapter 13 after reset, its receiver READY. -/
def atNode : State := { State.reset with li := { State.reset.li with rx := .ready } }

/-- The same, calibrated and in RUN. -/
def inRun : State :=
  { atNode with nc := { atNode.nc with state := .run }, cv := { atNode.cv with state := .idle } }

/-- The same, in SAFE. -/
def inSafe : State := { inRun with nc := { inRun.nc with state := .safe } }

/-- The same, held by the reset pin. -/
def held : State := { State.reset with resetHeld := true }

/-- A request to that node, with sequence 5. -/
def req (body : List Byte) : Req := { address := 4, control := 5, body := body }

/-- A broadcast request. -/
def toAll (body : List Byte) : Req := { address := 31, control := 5, body := body }

/-- The kind and body of the reply that waits after a step. -/
def sent : Host.Outcome State Fault Refusal → Option (Nat × List Nat)
  | .next t => match t.li.tx with
    | .turnaround f => some (f.kind.toNat, f.body.map BitVec.toNat)
    | _ => none
  | _ => none

/-- Something read from the state after a step. -/
def seen {α : Type} (f : State → α) : Host.Outcome State Fault Refusal → Option α
  | .next t => some (f t)
  | _ => none

/-- A list of one pass over steps 0 and 1 of the step memory. -/
def listDef : ListDef :=
  { firstStep := 0, stepCount := 2, source := .host, passCount := 1, passPeriod := 0, policy := .restart,
    level := 1, preemptible := true, toFifo := true, stopOnFull := true, rearm := true,
    notifyPass := true, notifyEnd := true }

/-- A node in RUN with the record of list 0 given. -/
def withList (l : ListRecord) : State := inRun.updList 0 fun _ => l

/-- A node in RUN whose list 0 has a definition and a state. -/
def listIs (d : ListDef) (x : ListState) : State :=
  withList { ListRecord.fresh (some d) with state := x }

/-- The context of a conversion on channel 0 that ends its phase at stamp 10. -/
def context : Context :=
  { channel := 0, options := .reset, phaseEnd := 10, charged := none, discharged := none,
    firstSample := some 2, samples := 0, sum := 0, highSeen := false, lowSeen := false }

/-- A grant of channel 0 to an owner. -/
def granted (o : Owner) : Grant := { owner := o, channel := 0, options := .reset, stamp := 0 }

/-- A node in RUN whose converter is in a state, granted to an owner. -/
def converting (o : Owner) (x : ConverterState) : State :=
  { inRun with ca := { inRun.ca with grant := some (granted o) }, cv := { inRun.cv with state := x } }

/-- A ticket. -/
def ticket (n : Nat) : Ticket :=
  { number := n, channel := 3, options := ⟨none, none, none, none⟩, toFifo := false, notify := false }

/-- A record of value 2,500 on channel 0. -/
def record : Record :=
  { seq := 7, value := 2500, stamp := 0, channel := 0, flags := ⟨false, false, false, false⟩,
    source := .ticket 1 }

/-- A watch on channel 0 for 1,000 to 3,000. -/
def watchDef : WatchDef :=
  { channel := 0, low := 1000, high := 3000, hysteresis := 200, confirm := 2, onBelow := none,
    onInside := some { notify := true, output := some (1, .low) }, onAbove := none }

/-- A schedule entry due at a stamp. -/
def entry (h : Nat) (due : Stamp) : ScheduleEntry :=
  { handle := h, due := due, action := .setLine 0 .high, period := 100, repeats := 2, notify := true }

/-- A node in RUN with a schedule. -/
def scheduledAt (t : List ScheduleEntry) : State := { inRun with su := { table := t, nextHandle := 3 } }

/-- A node in RUN with the record of capture input 0 given. -/
def inputIs (i : CaptureInput) : State := inRun.updInput 0 fun _ => i

/-- A notice queue of `n` notices that all fit the shape. -/
def queued (n : Nat) : NoticeQueue :=
  { notices := (List.range n).map fun i => { seq := i + 1, stamp := 0, body := .fifoFull, delivered := false }
    nextSeq := n + 1, lost := none }

/-- A node in the middle of a frame. -/
def receiving (buffer : List Byte) : State :=
  { atNode with li := { atNode.li with rx := .receiving buffer } }

/-- A node the requests of this file reach hears them. -/
theorem hears {k : Kind} {body : List Byte} {s : State} (h1 : s.resetHeld = false)
    (h2 : s.rh = ⟨none, none⟩) (h3 : s.li.rx = .ready) (h4 : s.li.straps = strapsAtReset)
    (h5 : body.length ≤ 240) : Hears k (req body) s where
  free := ⟨h1, by rw [h2], by rw [h3]; rfl, h5⟩
  form := .inl ⟨by rw [h4]; rfl, by simp [State.cacheAnswers, h2]⟩

/-! ### WellFormed, words and frames -/

theorem test_wellFormed_accepts :
    (Instr.echo { address := 1, control := 0, body := List.replicate 240 0 }).wellFormed = true ∧
    (Instr.echo (toAll [])).wellFormed = true ∧ Instr.gap.wellFormed = true := by decide +kernel

theorem test_wellFormed_refuses_address :
    (Instr.echo { address := 0, control := 0, body := [] }).wellFormed = false ∧
    (Instr.echo { address := 32, control := 0, body := [] }).wellFormed = false := by decide +kernel

theorem test_wellFormed_refuses_body :
    (Instr.echo { address := 1, control := 0, body := List.replicate 241 0 }).wellFormed = false := by
  decide +kernel

/-- The check value of R160: the digits 1 to 9. -/
theorem test_crc_of_digits :
    crcOf [0x31, 0x32, 0x33, 0x34, 0x35, 0x36, 0x37, 0x38, 0x39] = 0x29B1 := by decide +kernel

/-- Kind codes of each family, from the table of 12 §12.5. -/
theorem test_kind_codes :
    kindOf 0x01 = some .identify ∧ kindOf 0x10 = some .setChannel ∧ kindOf 0x12 = some .cancelConvert ∧
    kindOf 0x25 = some .listStatus ∧ kindOf 0x34 = some .setFifoLevel ∧ kindOf 0x42 = some .watchStatus ∧
    kindOf 0x58 = some .outputStatus ∧ kindOf 0x60 = some .poll ∧ kindOf 0x09 = none ∧
    kindOf 0x00 = none ∧ kindOf 0xFF = none := by decide +kernel

/-- The first four characters of a POLL frame to node 4, sequence 1, and its body (12 §12.2). -/
theorem test_poll_frame_written_out :
    (requestFrame .poll { address := 4, control := 1, body := [0, 1, 16] }).chars.take 7 =
      [0x04, 0x01, 0x60, 0x03, 0x00, 0x01, 0x10] := by decide +kernel

/-- A step record of each kind written out bit by bit (12 §12.4). -/
theorem test_step_bytes :
    stepBytes (.convert 9 { settle := some 20, averaging := some .x4, mode := some .standard, check := none })
      = [9, 20, 4, 0b00010001] ∧
    stepBytes (.wait 5000) = [0b01000000, 0x13, 0x88, 0] ∧
    stepBytes (.await 3 none) = [0b10000011, 0, 0, 0] := by decide +kernel

/-- The third step of a WRITE_STEPS with averaging 3 is charged to detail 13 (12 R182). -/
theorem test_detail_of_third_step :
    sent (exec (.writeSteps (req [0, 3, 0, 0, 0, 0, 0, 0, 0, 0, 0, 0, 3, 0])) atNode)
      = some (255, [0x20, 3, 13]) := by decide +kernel

/-! ### Single steps of the worked sequences -/

/-- 13.1, request 0: STARTED with POWER, address 4 and 115,200 bit/s; one queued. -/
theorem test_poll_after_reset :
    sent (exec (.poll (req [0, 0, 16])) atNode)
      = some (224, [1, 0, 0, 1, 1, 3, 0, 0, 0, 0, 1, 4, 2]) := by decide +kernel

/-- 13.1, request 8: the silence time 5,000 ms, nothing remaining in STANDBY. -/
theorem test_setSilence_in_standby :
    sent (exec (.setSilence (req [0x13, 0x88])) atNode) = some (135, [0x13, 0x88, 0, 0]) := by
  decide +kernel

/-- 11 R177: 1 to 9 ms and more than 60,000 ms are refused, 10 and 60,000 are not. -/
theorem test_setSilence_bounds :
    sent (exec (.setSilence (req [0, 9])) atNode) = some (255, [7, 3, 1]) ∧
    sent (exec (.setSilence (req [0xEA, 0x61])) atNode) = some (255, [7, 3, 1]) ∧
    sent (exec (.setSilence (req [0, 10])) atNode) = some (135, [0, 10, 0, 0]) ∧
    sent (exec (.setSilence (req [0xEA, 0x60])) atNode) = some (135, [0xEA, 0x60, 0, 0]) := by
  decide +kernel

/-- 13.1, request 9, and 11 R172: GO from STANDBY, from SAFE, and in RUN. -/
theorem test_go_outcomes :
    sent (exec (.go (req [])) atNode) = some (132, [1, 0]) ∧
    sent (exec (.go (req [])) inSafe) = some (132, [1, 2]) ∧
    sent (exec (.go (req [])) inRun) = some (132, [2, 1]) := by decide +kernel

/-- 13.1: START_LIST before GO is refused STATE. -/
theorem test_start_before_go :
    sent (exec (.startList (req [0])) atNode) = some (255, [0x23, 4, 0]) := by decide +kernel

/-- 13.2: a CONVERT with the converter free is in flight when its reply is built. -/
theorem test_convert_in_flight :
    sent (exec (.convert (req [9, 0, 0, 0, 2])) inRun) = some (145, [1, 0]) ∧
    seen (fun t => (t.ca.queue.length, t.ca.nextTicket, t.cv.due)) (exec (.convert (req [9, 0, 0, 0, 2])) inRun)
      = some (0, 2, some 10) := by decide +kernel

/-- The context of 3.7.1 before its last sample. -/
def lastSample : Context :=
  { context with
    options := { settle := 50, averaging := .x4, mode := .standard, check := true }
    charged := some 4000, discharged := some 2100, samples := 3, sum := 12278, highSeen := true }

/-- 3.7.1: four samples sum to 16,373; the value is 4,093, high was seen, and OPEN is clear. -/
theorem test_last_sample :
    seen (fun t => (t.rs.latest.toList.headD none).map fun e =>
        (e.record.value, e.record.flags.clipHigh, e.record.flags.openInput, e.record.stamp))
      (exec (.sampleEnd 4095) (converting (.ticket 1 false false) (.sampling lastSample)))
      = some (some (4093, true, false, 2)) := by decide +kernel

/-- 4.7.1: the node before a record, with a fill and a level of 383. -/
def filled (n : Nat) : State :=
  { inRun with nq := .reset, rs := { inRun.rs with level := 383, fifo := List.replicate n record } }

/-- 4.7.1: the entry that makes the fill the level raises FIFO_LEVEL; a 385th record is dropped. -/
theorem test_fifo_notices :
    (storeRecord record true (filled 382)).1.nq.notices.map Notice.body = [.fifoLevel 383] ∧
    (storeRecord record true (filled 383)).1.nq.notices = [] ∧
    (storeRecord record true (filled 384)).1.nq.notices.map Notice.body = [.fifoFull] ∧
    (storeRecord record true (filled 384)).1.rs.dropped = 1 := by decide +kernel

/-- 5.5.1: two records confirm INSIDE; 2,850 stays ABOVE, 2,800 and the inner edge 1,200 do not stay. -/
theorem test_watch_zones :
    candidate watchDef none 2500 = .inside ∧ candidate watchDef (some .inside) 3050 = .above ∧
    candidate watchDef (some .above) 2850 = .above ∧ candidate watchDef (some .above) 2800 = .inside ∧
    candidate watchDef (some .below) 1199 = .below ∧ candidate watchDef (some .below) 1200 = .inside ∧
    (confirmZone (.fresh watchDef) .inside 50).2 = false ∧
    (confirmZone (confirmZone (.fresh watchDef) .inside 50).1 .inside 51).2 = true := by decide +kernel

/-- An input set to BOTH with a debounce of 200 µs and a context, or none. -/
def bouncing (c : Option (Stamp × Direction)) : State :=
  inputIs { edge := .both, debounce := 200, notify := true, settled := .low, context := c }

/-- 6.5.1: a rise begins a debounce context; the fall that follows ends it with nothing logged. -/
theorem test_debounce_and_bounce :
    seen (fun t => ((t.input 0).context, t.tcu.log)) (exec (.capturePinChange 0 .high) (bouncing none))
      = some (some (0, .rising), []) ∧
    seen (fun t => ((t.input 0).context, t.tcu.log))
        (exec (.capturePinChange 0 .low) ((bouncing (some (0, .rising))).setPin 0 .high))
      = some (none, []) := by decide +kernel

/-- 6.5.1: at the end of the debounce the edge is logged with the stamp of the change. -/
theorem test_debounce_ends :
    seen (fun t => ((t.input 0).settled, t.tcu.log, t.now))
        (exec (.debounceEnd 0) ((bouncing (some (0, .rising))).setPin 0 .high))
      = some (.high, [.edge 0 .rising 0], 200) := by decide +kernel

/-- 6.5.3: SET_OUTPUT writes line 3 HIGH in STANDBY with source HOST, and is refused STATE in SAFE. -/
theorem test_setOutput :
    sent (exec (.setOutput (req [8, 0x80])) atNode) = some (214, [8]) ∧
    seen (fun t => (t.line 3).source) (exec (.setOutput (req [8, 0x80])) atNode) = some .host ∧
    sent (exec (.setOutput (req [8, 0x80])) inSafe) = some (255, [0x56, 4, 0]) := by decide +kernel

/-- 12 R181: a line mask with bit 4 set and a level code of 3 fail FIELD. -/
theorem test_line_fields :
    sent (exec (.setOutput (req [16, 0])) atNode) = some (255, [0x56, 3, 1]) ∧
    sent (exec (.setSafeLevels (req [1, 3])) atNode) = some (255, [0x57, 3, 2]) := by decide +kernel

/-- 7.7.1: the first three entries, at stamp 900,000. -/
theorem test_schedule_positions :
    sent (exec (.schedule (req ([1, 0, 2] ++ u32 1000000 ++ u32 500000 ++ [0, 0, 0]))) (scheduledAt []))
      = some (211, [3, 1]) ∧
    sent (exec (.schedule (req ([1, 0, 1] ++ u32 1250000 ++ u32 0 ++ [0, 0, 1])))
        (scheduledAt [entry 1 1000000, entry 2 1250000, entry 9 1250001])) = some (211, [3, 3]) := by
  decide +kernel

/-- 7.7.2: 2^31 - 1 µs ahead is accepted, the present stamp and 2^31 µs ahead are LATE. -/
theorem test_schedule_window :
    sent (exec (.schedule (req ([1, 0, 1] ++ u32 2147483647 ++ u32 0 ++ [0, 0, 0]))) (scheduledAt []))
      = some (211, [3, 1]) ∧
    sent (exec (.schedule (req ([1, 0, 1] ++ u32 2147483648 ++ u32 0 ++ [0, 0, 0]))) (scheduledAt []))
      = some (255, [0x53, 8, 0]) ∧
    sent (exec (.schedule (req ([1, 0, 1] ++ u32 0 ++ u32 0 ++ [0, 0, 0]))) (scheduledAt []))
      = some (255, [0x53, 8, 0]) := by decide +kernel

/-- 7.7.1: a periodic entry fires, writes its line, and comes back behind its equals. -/
theorem test_action_fires :
    seen (fun t => (t.su.table.map ScheduleEntry.handle, (t.line 0).source, t.now))
        (exec .actionFiring (scheduledAt [entry 1 50, entry 2 150, entry 3 151]))
      = some ([2, 1, 3], .schedule 1, 50) := by decide +kernel

/-- Four notices, the first two delivered. -/
def shown : NoticeQueue := (queued 4).deliver 2

/-- 8.5.1: an acknowledgement removes through the delivered notice it names; one of none is flagged. -/
theorem test_acknowledge :
    (shown.acknowledge 0 2).1.notices.map Notice.seq = [3, 4] ∧ (shown.acknowledge 0 2).2 = false ∧
    shown.acknowledge 0 3 = (shown, true) := by decide +kernel

/-- 10.6.2, frame F: a broadcast POLL is good, and is set aside and counted. -/
theorem test_broadcast_poll :
    seen (fun t => (t.li.counters.good, t.li.counters.ignored, t.li.tx)) (exec (.poll (toAll [0, 0, 1])) atNode)
      = some (1, 1, .idle) := by decide +kernel

/-- 10.6.2, frame A: one data bit flipped on its way fails the check. -/
theorem test_flipped_bit :
    seen (fun t => t.li.counters.check)
        (exec .gap (receiving ((requestFrame .go (req [])).chars.set 2 0x06))) = some 1 := by decide +kernel

/-- A node whose cache holds the reply to a GO. -/
def afterGo : State :=
  { atNode with
    rh := { inHand := none
            cache := some { seq := 5, crc := (requestFrame .go (req [])).crc
                            reply := sealFrame 132 5 132 [1, 0] } } }

/-- 9.7: a frame sent again is answered from the cache, marked, and not executed. -/
theorem test_retry_from_cache :
    seen (fun t => t.li.tx) (exec (.go (req [])) afterGo) = some (.turnaround (sealFrame 132 0x85 132 [1, 0])) := by decide +kernel

/-- 13.6: an ACTIVE list and a schedule entry at the expiry of the timer. -/
theorem test_silence_expiry :
    seen (fun t => (t.nc.state, (t.list 0).state, t.su.table.length, (t.line 2).source,
          t.nq.notices.map fun n => n.body.code))
        (exec .silenceExpiry
          { listIs listDef .active with
            nq := .reset
            su := { table := [entry 1 90], nextHandle := 2 }
            nc := { inRun.nc with timer := some 40 } })
      = some (.safe, .ready, 0, .safe, [4, 12]) := by decide +kernel

/-- A decoder over the opcode table's bits, which the table gives to no row (log 1). -/
theorem test_no_word_spells_a_command : decodeTableWord 8 1 = none ∧ inRun.withFetchWord 8 1 = inRun := by
  decide +kernel

/-! ### Witnesses: the machine, resets and the line -/

/-- The node of chapter 13 hears every request of this file, in each of its three node states. -/
theorem hears_atNode (k : Kind) (body : List Byte) (h : body.length ≤ 240) : Hears k (req body) atNode :=
  hears rfl rfl rfl rfl h
theorem hears_inRun (k : Kind) (body : List Byte) (h : body.length ≤ 240) : Hears k (req body) inRun :=
  hears rfl rfl rfl rfl h
theorem hears_inSafe (k : Kind) (body : List Byte) (h : body.length ≤ 240) : Hears k (req body) inSafe :=
  hears rfl rfl rfl rfl h

theorem test_witness_PowerOnReset : State.reset.resetHeld = false := rfl

theorem test_witness_PinReset : State.reset.resetHeld = false ∧ held.resetHeld = true := ⟨rfl, rfl⟩

theorem test_witness_HeldNodeTakesNothing :
    held.resetHeld = true ∧ (Instr.go (req [])).request.isSome = true := ⟨rfl, rfl⟩

/-- A node whose reply is being sent, with or without a SOFT reset pending. -/
def sending (pending : Bool) : State :=
  { inRun with
    li := { inRun.li with tx := .sending (sealFrame 132 5 134 []) }
    nc := { inRun.nc with restartPending := pending } }

theorem test_witness_SendingEnds :
    (∀ b, (sending b).li.tx = .sending (sealFrame 132 5 134 []) ∧ (sending b).nc.restartPending = b) ∧
    ∀ reply, inRun.li.tx ≠ .sending reply := ⟨fun _ => ⟨rfl, rfl⟩, nofun⟩

theorem test_witness_CharacterReceived :
    atNode.resetHeld = false ∧ (receiving (List.replicate 245 0)).resetHeld = false ∧
    (receiving (List.replicate 246 0)).resetHeld = false := ⟨rfl, rfl, rfl⟩

/-- A node that holds a request and is sent another frame. -/
def replying : State :=
  { receiving [4] with rh := { inHand := some (requestFrame .go (req []), .replying), cache := none } }

theorem test_witness_GapEndsFrame :
    ({ atNode with li := { atNode.li with rx := .off } } : State).li.rx = .off ∧
    atNode.li.rx.betweenFrames = true ∧
    replying.li.rx = .receiving [4] ∧ replying.rh.inHand.isSome = true ∧
    (receiving [4, 0, 4, 0, 0]).rh.inHand = none ∧ ([4, 0, 4, 0, 0] : List Byte).length < 6 ∧
    (([4, 0, 4, 1, 0, 0] : List Byte).getD 3 0).toNat ≠ ([4, 0, 4, 1, 0, 0] : List Byte).length - 6 ∧
    (([4, 0, 4, 0, 0, 0] : List Byte).getD 3 0).toNat = ([4, 0, 4, 0, 0, 0] : List Byte).length - 6 ∧
    (crcOf (([4, 0, 4, 0, 0, 0] : List Byte).take 4)).toNat ≠ 0 ∧
    (receiving (requestFrame .go (req [])).chars).li.rx = .receiving (requestFrame .go (req [])).chars ∧
    (Instr.go (req [])).request = some (.go, req []) ∧ addressedTo strapsAtReset (req []).address = true ∧
    (toAll []).address = 31 ∧ kindOf 0 = none ∧
    (receiving (sealFrame 31 5 0 []).chars).rh.inHand = none := by decide +kernel

/-- A node with a reply waiting for its turnaround. -/
def waiting : State := { inRun with li := { inRun.li with tx := .turnaround (sealFrame 132 5 134 []) } }

theorem test_witness_SendingStarts :
    waiting.li.tx = .turnaround (sealFrame 132 5 134 []) ∧ ∀ reply, inRun.li.tx ≠ .turnaround reply :=
  ⟨rfl, nofun⟩

theorem test_witness_RequestFrameReadsBack :
    ({ address := 1, control := 0, body := [] } : Req).wellFormed = true ∧
    ({ address := 31, control := 255, body := List.replicate 240 255 } : Req).wellFormed = true := by
  decide +kernel

theorem test_witness_RequestIsDecidedByOwner :
    (Instr.echo (req [1, 2])).request = some (.echo, req [1, 2]) ∧
    Hears .echo (req [1, 2]) atNode ∧
    (Instr.go (toAll [])).request = some (.go, toAll []) ∧ Hears .go (toAll []) atNode :=
  ⟨rfl, hears_atNode _ _ (by decide), rfl, ⟨⟨rfl, rfl, rfl, by decide⟩, .inr ⟨rfl, rfl⟩⟩⟩

/-- A node that is sent a frame of an unknown kind, 09h, again after it has refused it. -/
def refusedBefore : State :=
  { receiving (sealFrame 4 5 0x09 []).chars with
    rh := { inHand := none
            cache := some { seq := 5, crc := (sealFrame 4 5 0x09 []).crc
                            reply := sealFrame 132 5 255 [9, 2, 0] } } }

theorem test_witness_GapEndsFrame_cached :
    refusedBefore.resetHeld = false ∧ refusedBefore.li.rx = .receiving (sealFrame 4 5 0x09 []).chars ∧
    refusedBefore.rh.inHand = none ∧ addressedTo refusedBefore.li.straps 4 = true ∧
    refusedBefore.rh.cache.map CacheEntry.seq = some ((5 : Byte).setWidth 4) ∧
    refusedBefore.rh.cache.map CacheEntry.crc = some (sealFrame 4 5 0x09 []).crc := by decide +kernel

/-- 09 R150: a refusal too is sent again from the cache, marked. -/
theorem test_retry_of_refusal :
    seen (fun t => t.li.tx) (exec .gap refusedBefore)
      = some (.turnaround (sealFrame 132 0x85 255 [9, 2, 0])) := by decide +kernel

theorem test_witness_UnknownKindIsRefused :
    kindOf 0x09 = none ∧ addressedTo strapsAtReset 4 = true ∧
    (receiving (sealFrame 4 5 0x09 []).chars).resetHeld = false ∧
    (receiving (sealFrame 4 5 0x09 []).chars).li.rx = .receiving (sealFrame 4 5 0x09 []).chars ∧
    (receiving (sealFrame 4 5 0x09 []).chars).rh.inHand = none ∧
    (receiving (sealFrame 4 5 0x09 []).chars).cacheAnswers (sealFrame 4 5 0x09 []) = false := by
  decide +kernel

theorem test_witness_MatchingFrameIsAnsweredFromCache :
    afterGo.Free (req []) ∧ addressedTo afterGo.li.straps (req []).address = true ∧
    afterGo.rh.cache.map CacheEntry.seq = some ((req []).control.setWidth 4) ∧
    afterGo.rh.cache.map CacheEntry.crc = some (requestFrame .go (req [])).crc :=
  ⟨⟨rfl, rfl, rfl, by decide⟩, by decide +kernel, by decide +kernel, by decide +kernel⟩

theorem test_witness_RequestsNotExecuted :
    (atNode.Free (toAll []) ∧ Kind.poll ∉ [Kind.mark, .go, .halt, .startList, .stopList]) ∧
    (atNode.li.rx.betweenFrames = true ∧ addressedTo atNode.li.straps 5 = false) ∧
    (waiting.li.rx.betweenFrames = true ∧ ({ waiting with rh := replying.rh } : State).rh.inHand.isSome = true) ∧
    (sending false).resetHeld = false :=
  ⟨⟨⟨rfl, rfl, rfl, by decide⟩, by decide⟩, by decide +kernel, ⟨rfl, rfl⟩, rfl⟩

/-! ### Witnesses: requests -/

theorem test_witness_PlainReads :
    Hears .identify (req []) atNode ∧ Hears .echo (req (List.replicate 240 1)) atNode ∧
    Hears .readStamp (req []) atNode ∧ Hears .status (req []) inRun ∧ Hears .fifoStatus (req []) atNode ∧
    Hears .outputStatus (req []) atNode :=
  ⟨hears_atNode _ _ (by decide), hears_atNode _ _ (by decide +kernel), hears_atNode _ _ (by decide),
    hears_inRun _ _ (by decide), hears_atNode _ _ (by decide), hears_atNode _ _ (by decide)⟩

theorem test_witness_TableReads : ∀ b : Byte,
    (Hears .readSteps (req [b, 1]) atNode ∧ (req [b, 1]).body.length = 2) ∧
    (Hears .listStatus (req [b]) atNode ∧ (req [b]).body.length = 1) ∧
    (Hears .watchStatus (req [b, 0]) atNode ∧ (req [b, 0]).body.length = 2) ∧
    (Hears .scheduleStatus (req [b]) atNode ∧ (req [b]).body.length = 1) := fun _ =>
  ⟨⟨hears_atNode _ _ (by simp), rfl⟩, ⟨hears_atNode _ _ (by simp), rfl⟩,
    ⟨hears_atNode _ _ (by simp), rfl⟩, ⟨hears_atNode _ _ (by simp), rfl⟩⟩

/-- 12 §12.6: READ_STEPS at the edges of its ranges, steps as a reset leaves them. -/
theorem test_readSteps_bounds :
    sent (exec (.readSteps (req [127, 1])) atNode) = some (161, [127, 1, 0, 0, 0, 0]) ∧
    sent (exec (.readSteps (req [128, 1])) atNode) = some (255, [0x21, 3, 1]) ∧
    sent (exec (.readSteps (req [127, 2])) atNode) = some (255, [0x21, 3, 2]) ∧
    sent (exec (.readSteps (req [0, 60])) atNode) = some (255, [0x21, 3, 2]) := by decide +kernel

theorem test_witness_GoRestartSetSilence :
    (Hears .go (req []) inRun ∧ Hears .go (req []) inSafe) ∧ Hears .restart (req []) inRun ∧
    Hears .setSilence (req [0, 9]) inRun ∧ Hears .setSilence (req [0, 10]) inRun ∧
    Hears .setSilence (req [0xEA, 0x60]) inRun ∧ Hears .setSilence (req [0xEA, 0x61]) inRun :=
  ⟨⟨hears_inRun _ _ (by decide), hears_inSafe _ _ (by decide)⟩, hears_inRun _ _ (by decide),
    hears_inRun _ _ (by decide), hears_inRun _ _ (by decide), hears_inRun _ _ (by decide),
    hears_inRun _ _ (by decide)⟩

/-- A node whose conversion in flight is list 0's, with the list ACTIVE at its CONVERT step. -/
def busy : State :=
  (converting (.list 0 0) (.settling context)).updList 0 fun _ =>
    { ListRecord.fresh (some listDef) with state := .active, inFlight := true }

/-- The same, with a ticket waiting. -/
def busyWaiting : State := { busy with ca := { busy.ca with queue := [ticket 1] } }

theorem test_witness_HaltLeavesRun :
    (Hears .halt (req []) atNode ∧ atNode.nc.state = .standby) ∧
    (Hears .halt (req []) inSafe ∧ inSafe.nc.state = .safe) ∧
    (Hears .halt (req []) (listIs listDef .active) ∧ (listIs listDef .active).nc.state = .run) ∧
    (converting (.ticket 1 false false) (.settling context)).ca.inFlightTicket.isSome = true ∧
    (atNode.cv.state = .calibrating ∧ atNode.ca.grant = none) ∧
    ((busy.list 0).state = .active ∧ (busy.list 0).inFlight = true ∧ busy.ca.ownedByList 0 = true ∧
      busy.ca.queue = []) ∧
    (busyWaiting.list 0).inFlight = true ∧ busyWaiting.ca.ownedByList 0 = true ∧
      busyWaiting.ca.queue = [ticket 1] :=
  ⟨⟨hears_atNode _ _ (by decide), rfl⟩, ⟨hears_inSafe _ _ (by decide), rfl⟩,
    ⟨hears rfl rfl rfl rfl (by decide), rfl⟩, by decide +kernel⟩

/-- 02 R44, R47: HALT abandons a list's conversion, and the waiting ticket is granted; the LIST_END of
the list is raised. -/
theorem test_halt_grants_the_ticket :
    seen (fun t => (t.ca.inFlightTicket, t.ca.queue.length, t.cv.state.code,
          (t.list 0).endRecord.map fun e => e.1.code,
          t.nq.notices.map fun n => n.body.code)) (exec (.halt (req [])) { busyWaiting with nq := .reset })
      = some (some 1, 0, 3, some 6, [4]) := by decide +kernel

/-- A node whose timer expires at stamp 40, with nothing due before it. -/
def falling : State := { listIs listDef .active with nc := { inRun.nc with timer := some 40 } }

theorem test_witness_SilenceEntersSafe :
    atNode.nc.timer = none ∧ falling.resetHeld = false ∧ falling.nc.timer = some 40 ∧
    falling.reaches 40 = true := by decide +kernel

theorem test_witness_SetChannelWritesGivenFields :
    Hears .setChannel (req [0, 7, 20, 4, 17]) atNode ∧
    (parseOptGroup [0, 7, 20, 4, 17] 2).toBool = true ∧ (parseOptGroup [0, 7, 0, 0, 16] 2).toBool = false ∧
    (req [0, 7, 0, 0, 16]).body.length = 5 := by
  exact ⟨hears_atNode _ _ (by decide), by decide +kernel, by decide +kernel, rfl⟩

/-- A node with a number of tickets waiting. -/
def withTickets (n : Nat) : State :=
  { inRun with ca := { inRun.ca with queue := (List.range n).map fun i => ticket (i + 1), nextTicket := 9 } }

theorem test_witness_ConvertPlacesTicket :
    (Hears .convert (req [16, 0, 0, 0, 0]) inRun ∧ (below 16 16).isNone = true) ∧
    (below 16 15).isSome = true ∧
    (Hears .convert (req [15, 0, 3, 0, 0]) inRun ∧ (parseOptGroup [15, 0, 3, 0, 0] 1).toBool = false) ∧
    (Hears .convert (req [15, 0, 0, 0, 3]) (withTickets 8) ∧ 8 ≤ (withTickets 8).ca.queue.length) ∧
    (Hears .convert (req [15, 0, 0, 0, 3]) (withTickets 7) ∧ (withTickets 7).ca.queue.length < 8) ∧
    busy.ca.grant.map Grant.owner = some (.list 0 0) ∧ ((busy.list 0).defn.map ListDef.preemptible) = some true :=
  ⟨⟨hears_inRun _ _ (by decide), by decide⟩, by decide,
    ⟨hears_inRun _ _ (by decide), by decide +kernel⟩,
    ⟨hears rfl rfl rfl rfl (by decide), by decide +kernel⟩,
    ⟨hears rfl rfl rfl rfl (by decide), by decide +kernel⟩, by decide +kernel, by decide +kernel⟩

/-- 2.8.2: after 127 the search goes on at 1, and passes a number in use. -/
theorem test_ticket_numbers :
    ({ (withTickets 1).ca with nextTicket := 127 }).freeNumber = 127 ∧
    ({ (withTickets 2).ca with nextTicket := 1 }).freeNumber = 3 := by decide +kernel

theorem test_witness_NumbersGivenAreFirstFree :
    1 ≤ (withTickets 8).ca.nextTicket ∧ (withTickets 8).ca.nextTicket ≤ 127 ∧
    (withTickets 8).ca.queue.length ≤ 8 ∧
    1 ≤ (scheduledAt (List.replicate 24 (entry 3 9))).su.nextHandle ∧
    (scheduledAt (List.replicate 24 (entry 3 9))).su.nextHandle ≤ 255 ∧
    (scheduledAt (List.replicate 24 (entry 3 9))).su.table.length ≤ 24 := by decide +kernel

theorem test_witness_CancelConvertOutcomes : ∀ b : Byte,
    Hears .cancelConvert (req [b]) inRun ∧ Hears .cancelConvert (req [b]) (withTickets 8) ∧
    Hears .cancelConvert (req [b]) (converting (.ticket 1 false false) (.settling context)) := fun _ =>
  ⟨hears_inRun _ _ (by simp), hears rfl rfl rfl rfl (by simp), hears rfl rfl rfl rfl (by simp)⟩

/-- Lists 1 and 3 claim at level 1, list 0 at level 3. -/
def claiming : State :=
  ([(0, 3), (1, 1), (3, 1)] : List (Fin 8 × Fin 4)).foldl (fun s p =>
    s.updList p.1 fun _ => { ListRecord.fresh (some { listDef with level := p.2 }) with state := .active }) inRun

theorem test_witness_GrantRule :
    (atNode.cv.state ≠ .idle ∧ busy.ca.grant.isSome = true) ∧
    (inRun.cv.state = .idle ∧ inRun.ca.grant = none ∧ inRun.ca.queue = [] ∧
      ∀ k, listClaims inRun k = false) ∧
    (withTickets 8).ca.queue = ticket 1 :: ((withTickets 8).ca.queue.drop 1) ∧
    claiming.ca.queue = [] ∧ listClaims claiming 0 = true ∧ listLevel claiming 0 = some 3 ∧
    currentStep claiming 0 = some .reset ∧
    ∀ j, listClaims claiming j = true → j = 0 ∨ listLevel claiming j = some 1 := by decide +kernel

/-- 2.8.1: within a level the turn passes on from the pointer, 7, and then from 1. -/
theorem test_turns :
    chosenList claiming = some 0 ∧ turnAt claiming 1 = some 1 ∧
    turnAt { claiming with ca := { claiming.ca with pointers := Vector.replicate 4 1 } } 1 = some 3 ∧
    turnAt { claiming with ca := { claiming.ca with pointers := Vector.replicate 4 3 } } 1 = some 1 := by
  decide +kernel

theorem test_witness_ConverterPhasesEnd :
    inRun.cv.state ≠ .calibrating ∧ (atNode.cv.state = .calibrating ∧ atNode.reaches 1500 = true) ∧
    (∀ c, inRun.cv.state ≠ .checking c) ∧ (∀ c, inRun.cv.state ≠ .settling c) ∧
    (converting (.list 0 0) (.checking context)).reaches 10 = true ∧
    (converting (.list 0 0) (.settling context)).reaches 10 = true :=
  ⟨by decide, by decide +kernel, nofun, nofun, by decide +kernel, by decide +kernel⟩

theorem test_witness_SampleEnds :
    (∀ c, inRun.cv.state ≠ .sampling c) ∧
    (converting (.ticket 1 true true) (.sampling context)).ca.grant = some (granted (.ticket 1 true true)) ∧
    (converting (.ticket 1 true true) (.sampling context)).reaches 10 = true ∧
    context.options.averaging.count ≤ context.samples + 1 ∧
    (({ context with options := { context.options with averaging := .x16 }, samples := 14 } : Context).samples
      + 1 < Averaging.x16.count) :=
  ⟨nofun, rfl, by decide +kernel, by decide, by decide⟩

theorem test_witness_RecordStored :
    (filled 383).rs.fifo.length < 384 ∧ 384 ≤ (filled 384).rs.fifo.length ∧
    (filled 382).rs.levelArmed = true ∧ (filled 382).rs.level = (filled 382).rs.fifo.length + 1 := by
  decide +kernel

theorem test_witness_ResultRequests : ∀ b : Byte,
    (Hears .readLatest (req [b, 255]) inRun ∧ (req [b, 255]).body.length = 2) ∧
    (Hears .readFifo (req [b]) (filled 20) ∧ (req [b]).body.length = 1) ∧ Hears .clearFifo (req []) inRun ∧
    (Hears .setFifoLevel (req [1, b]) inRun ∧ (req [1, b]).body.length = 2) := fun _ =>
  ⟨⟨hears_inRun _ _ (by simp), rfl⟩, ⟨hears rfl rfl rfl rfl (by simp), rfl⟩,
    hears_inRun _ _ (by simp), ⟨hears_inRun _ _ (by simp), rfl⟩⟩

/-- 4.7.1 and 04 R74, R78 at the edges of their ranges. -/
theorem test_fifo_bounds :
    seen (fun t => (t.rs.fifo.length, t.rs.levelArmed, t.rs.fullArmed)) (exec (.readFifo (req [19])) (filled 384))
      = some (365, true, true) ∧
    sent (exec (.readFifo (req [20])) inRun) = some (255, [0x31, 3, 1]) ∧
    sent (exec (.readFifo (req [0])) inRun) = some (255, [0x31, 3, 1]) ∧
    sent (exec (.setFifoLevel (req [1, 128])) inRun) = some (180, [1, 128, 0, 0, 1]) ∧
    sent (exec (.setFifoLevel (req [1, 129])) inRun) = some (255, [0x34, 3, 1]) := by decide +kernel

/-! ### Witnesses: watches, captures, the schedule and the lines -/

theorem test_witness_WatchRequests :
    (Hears .setWatch (req (12 :: watchDefBytes watchDef)) inRun ∧ (below 12 12).isNone = true) ∧
    (Hears .setWatch (req (11 :: watchDefBytes watchDef)) inRun ∧
      (parseWatchDef (11 :: watchDefBytes watchDef)).toBool = true ∧ (below 12 11).isSome = true) ∧
    (Hears .setWatch (req (11 :: watchDefBytes { watchDef with confirm := 0 })) inRun ∧
      (parseWatchDef (11 :: watchDefBytes { watchDef with confirm := 0 })).toBool = false) ∧
    Hears .clearWatch (req [11]) inRun ∧ Hears .clearWatch (req [12]) inRun :=
  ⟨⟨hears_inRun _ _ (by decide), by decide⟩, ⟨hears_inRun _ _ (by decide), by decide +kernel⟩,
    ⟨hears_inRun _ _ (by decide), by decide +kernel⟩, hears_inRun _ _ (by decide), hears_inRun _ _ (by decide)⟩

/-- A node with watch 0 in a zone. -/
def watching (z : Option Zone) : State := inRun.setWatch 0 (some { WatchEntry.fresh watchDef with zone := z })

theorem test_witness_WatchEvaluation :
    (WatchEntry.fresh { watchDef with confirm := 1 }).zone ≠ some .inside ∧
    (watching (some .inside)).watch 0 = some { WatchEntry.fresh watchDef with zone := some .inside } ∧
    (watching none).watch 1 = none ∧ watchDef.channel = record.channel ∧
    watchDef.channel ≠ ({ record with channel := 1 } : Record).channel ∧ record.flags.openInput = false := by
  decide +kernel

theorem test_witness_ZoneChangeConsequences :
    watchDef.onInside.bind WatchAction.output = some (1, .low) ∧ inRun.nc.state = .run ∧
    watchDef.onAbove.bind WatchAction.output = none ∧ inSafe.nc.state ≠ .run := by decide +kernel

theorem test_witness_CapturePinChanges :
    (bouncing none).resetHeld = false ∧ (bouncing none).tcu.pins[(0 : Fin 4)] = .low ∧
    (bouncing none).tcu.pins[(0 : Fin 4)] ≠ .high ∧ ((bouncing none).input 0).context = none ∧
    (.high : Level) ≠ ((bouncing none).input 0).settled ∧
    ((bouncing (some (0, .rising))).input 0).context.isSome = true ∧
    ((bouncing (some (0, .rising))).setPin 0 .high).tcu.pins[(0 : Fin 4)] ≠ .low ∧
    (.low : Level) = ((bouncing (some (0, .rising))).input 0).settled ∧
    (inRun.input 0).edge = .off := by decide +kernel

/-- A list fresh from its definition, with a state, is sound. -/
theorem listIs_sound (x : ListState) (h : x ≠ .undefined) : ((listIs listDef x).list 0).Sound := by
  have e : (listIs listDef x).list 0 = { ListRecord.fresh (some listDef) with state := x } := rfl
  rw [e]
  refine ⟨⟨nofun, fun g => absurd g h⟩, ?_, ?_, fun _ => ⟨rfl, rfl, rfl⟩, ?_, ?_, rfl⟩ <;>
    intro d hd <;> (obtain rfl : d = listDef := by revert hd; rintro ⟨⟩; rfl)
  · decide
  · exact Nat.zero_lt_two
  · intros; exact Nat.zero_le _
  · intros; exact Nat.zero_lt_one

/-- List 0 stands ACTIVE at an AWAIT step on capture input 0, which is also its source. -/
def awaiting : State :=
  let s := listIs { listDef with source := .capture 0 } .active
  { s with se := { s.se with steps := s.se.steps.set 0 (.await 0 none) } }

/-- 01 R24: an edge that restarts a list does not finish the AWAIT step of the run it started; under
IGNORE it finishes the step. -/
theorem test_edge_restarts_or_finishes :
    (((acceptEdge 0 .rising 0 awaiting).list 0).stepIndex, ((acceptEdge 0 .rising 0 awaiting).list 0).missed)
      = (0, 0) ∧
    (let s := awaiting.updList 0 fun l => { l with defn := l.defn.map fun d => { d with policy := .ignore } }
     (((acceptEdge 0 .rising 0 s).list 0).stepIndex, ((acceptEdge 0 .rising 0 s).list 0).missed) = (1, 1)) := by
  decide +kernel

theorem test_witness_DebounceEnds_awaiting :
    (awaiting.list 0).state = .active ∧ currentStep awaiting 0 = some (.await 0 none) ∧
    (inRun.list 1).state ≠ .active ∧
    ((listIs listDef .armed).list 0).Sound ∧ ((listIs listDef .active).list 0).Sound :=
  ⟨rfl, by decide +kernel, by decide +kernel, listIs_sound _ (by decide), listIs_sound _ (by decide)⟩

theorem test_witness_DebounceEnds :
    (inRun.input 0).context = none ∧
    (((bouncing (some (0, .rising))).setPin 0 .high).input 0).context = some (0, .rising) ∧
    ((bouncing (some (0, .rising))).setPin 0 .high).tcu.pins[(0 : Fin 4)] = .high ∧
    ((bouncing (some (0, .rising))).setPin 0 .high).reaches 200 = true := by decide +kernel

/-- A node whose capture log holds a number of entries. -/
def logged (n : Nat) : State := { inRun with tcu := { inRun.tcu with log := List.replicate n (.mark 0) } }

theorem test_witness_CaptureLogAndMark :
    (logged 31).tcu.log.length < 32 ∧ 32 ≤ (logged 32).tcu.log.length ∧ Hears .mark (req []) (logged 32) :=
  ⟨by decide +kernel, by decide +kernel, hears rfl rfl rfl rfl (by decide)⟩

theorem test_witness_CaptureRequests : ∀ mask edge hi lo notify : Byte,
    Hears .setCapture (req [mask, edge, hi, lo, notify]) inRun ∧
    (req [mask, edge, hi, lo, notify]).body.length = 5 ∧
    (Hears .readCaptures (req [32]) (logged 32) ∧ (req [32]).body.length = 1) := fun _ _ _ _ _ =>
  ⟨hears_inRun _ _ (by simp), rfl, hears rfl rfl rfl rfl (by simp), rfl⟩

/-- 06 R99 and 12 R181: a debounce of 255 or FFFFh is taken, one of 256 or FFFEh is not. -/
theorem test_setCapture_bounds :
    seen (fun t => (t.input 0).debounce) (exec (.setCapture (req [1, 4, 0, 255, 2])) inRun) = some 255 ∧
    seen (fun t => (t.input 0).debounce) (exec (.setCapture (req [1, 4, 255, 255, 0])) inRun) = some 0 ∧
    sent (exec (.setCapture (req [1, 4, 1, 0, 0])) inRun) = some (255, [0x51, 3, 3]) ∧
    sent (exec (.setCapture (req [15, 0, 255, 254, 0])) inRun) = some (255, [0x51, 3, 3]) ∧
    sent (exec (.setCapture (req [16, 0, 0, 0, 0])) inRun) = some (255, [0x51, 3, 1]) ∧
    sent (exec (.setCapture (req [15, 5, 0, 0, 0])) inRun) = some (255, [0x51, 3, 2]) ∧
    sent (exec (.setCapture (req [15, 0, 0, 0, 3])) inRun) = some (255, [0x51, 3, 5]) := by decide +kernel

/-- A SCHEDULE body for line 3. -/
def lineBody (due period repeats notify : Nat) : List Byte :=
  [1, 3, 2] ++ u32 due ++ u32 period ++ u16 repeats ++ u8 notify

theorem test_witness_SchedulePlacesEntry :
    (Hears .schedule (req (lineBody 1 0 0 0)) (scheduledAt []) ∧
      bodyLengthOk .schedule (lineBody 1 0 0 0) = true ∧
      (parseSchedule (lineBody 1 0 0 0) (scheduledAt [])).toBool = true) ∧
    (bodyLengthOk .schedule (lineBody 1 99 0 0) = true ∧
      (parseSchedule (lineBody 1 99 0 0) (scheduledAt [])).toBool = false) ∧
    (Hears .schedule (req (lineBody 1 0 0 0)) atNode ∧ atNode.nc.state ≠ .run) ∧
    24 ≤ (scheduledAt (List.replicate 24 (entry 1 9))).su.table.length :=
  ⟨⟨hears rfl rfl rfl rfl (by decide +kernel), by decide +kernel⟩, by decide +kernel,
    ⟨hears_atNode _ _ (by decide +kernel), by decide⟩, by decide +kernel⟩

/-- 07 R117: periods of 99 and 1,000,000,001, repeats without a period, and the fields of the action. -/
theorem test_witness_ScheduleBodyIsChecked :
    parseSchedule (lineBody 1 99 0 0) inRun = .error 8 ∧ (parseSchedule (lineBody 1 100 0 0) inRun).toBool ∧
    parseSchedule (lineBody 1 1000000001 0 0) inRun = .error 8 ∧
    parseSchedule (lineBody 1 0 1 0) inRun = .error 12 ∧
    (byteAt [3] 0 ≠ 1 ∧ byteAt [3] 0 ≠ 2 ∧ parseSchedule [3] inRun = .error 1) ∧
    parseSchedule [1, 4] inRun = .error 2 ∧ parseSchedule [1, 3, 3] inRun = .error 3 ∧
    parseSchedule [2, 8] inRun = .error 2 ∧ parseSchedule [2, 0] (listIs listDef .ready) = .error 2 ∧
    (parseSchedule ([2, 0] ++ u32 9 ++ u32 0 ++ u16 0 ++ [0])
      (listIs { listDef with source := .schedule } .ready)).toBool := by decide +kernel

theorem test_witness_ActionFires :
    inRun.su.table = [] ∧ (scheduledAt [entry 1 50, entry 2 50]).su.table = entry 1 50 :: [entry 2 50] ∧
    (scheduledAt [entry 1 50, entry 2 50]).reaches 50 = true := by decide +kernel

theorem test_witness_CancelActionRemoves : ∀ b : Byte,
    Hears .cancelAction (req [b]) (scheduledAt [entry 1 50, entry 255 60]) ∧ (req [b]).body.length = 1 ∧
    (∀ e ∈ (scheduledAt [entry 1 50, entry 255 60]).su.table, e.handle ≠ 2) ∧
    (scheduledAt [entry 1 50, entry 255 60]).su.table = [entry 1 50] ++ entry 255 60 :: [] ∧
    ∀ x ∈ [entry 1 50] ++ [], x.handle ≠ 255 := fun _ =>
  ⟨hears rfl rfl rfl rfl (by simp), rfl, by decide +kernel, rfl, by decide +kernel⟩

theorem test_witness_OutputRequests : ∀ mask levels : Byte,
    Hears .setOutput (req [mask, levels]) inRun ∧ Hears .setOutput (req [mask, levels]) inSafe ∧
    Hears .setSafeLevels (req [mask, levels]) inRun ∧ Hears .setSafeLevels (req [mask, levels]) inSafe ∧
    (req [mask, levels]).body.length = 2 := fun _ _ =>
  ⟨hears_inRun _ _ (by simp), hears_inSafe _ _ (by simp), hears_inRun _ _ (by simp),
    hears_inSafe _ _ (by simp), rfl⟩

/-! ### Witnesses: scan lists -/

/-- A list record with no definition is sound. -/
theorem fresh_sound : (ListRecord.fresh none).Sound where
  defined := by decide
  covered := nofun
  index := nofun
  still := by decide
  passes := nofun
  unfinished := nofun
  unmarked := rfl

/-- The busy node's lists stand as every step keeps them. -/
theorem busy_listsSound : busy.ListsSound := by
  have other : ∀ k : Fin 8, k = 0 ∨ busy.list k = .fresh none := by decide +kernel
  refine ⟨fun k => ?_, by decide +kernel, fun k h => ?_, fun k h => ?_⟩
  · rcases other k with rfl | hk
    · refine ⟨by decide +kernel, ?_, ?_, by decide +kernel, ?_, ?_, by decide +kernel⟩ <;>
        intro d hd <;> (obtain rfl : d = listDef := by revert hd; rintro ⟨⟩; rfl) <;> decide +kernel
    · rw [hk]; exact fresh_sound
  · rcases other k with rfl | hk
    · exact ⟨0, ⟨none, none, none, none⟩, by decide +kernel⟩
    · rw [hk] at h; cases h
  · rcases other k with rfl | hk
    · rw [show (busy.list 0).expiry = none by decide +kernel] at h; cases h
    · rw [hk] at h; cases h

theorem test_witness_WriteStepsWrites :
    busy.ListsSound ∧ Hears .writeSteps (req [127, 1, 0, 0, 0, 0]) busy ∧
    bodyLengthOk .writeSteps [127, 1, 0, 0, 0, 0] = true ∧ bodyLengthOk .writeSteps [128, 0] = true ∧
    Hears .writeSteps (req [1, 1, 0, 0, 0, 0]) busy ∧ stepsInUse busy.se 1 1 = true ∧
    stepsInUse busy.se 2 126 = false ∧ (parseSteps [127, 1, 0, 0, 0, 0] 2 1).toBool = true ∧
    (parseSteps [127, 1, 192, 0, 0, 0] 2 1).toBool = false :=
  ⟨busy_listsSound, hears rfl rfl rfl rfl (by decide), by decide +kernel, by decide +kernel,
    hears rfl rfl rfl rfl (by decide), by decide +kernel⟩

theorem test_witness_DefineAndClearList : ∀ b : Byte,
    (Hears .defineList (req (7 :: listDefBytes listDef)) inRun ∧
      (req (7 :: listDefBytes listDef)).body.length = 14 ∧
      (parseListDef (7 :: listDefBytes listDef) 7).toBool = true) ∧
    (Hears .defineList (req (8 :: listDefBytes listDef)) inRun ∧ 7 < byteAt [8] 0) ∧
    (parseListDef (7 :: listDefBytes { listDef with stepCount := 0 }) 7).toBool = false ∧
    Hears .clearList (req [b]) busy ∧ (req [b]).body.length = 1 := fun _ =>
  ⟨⟨hears_inRun _ _ (by decide), by decide +kernel⟩, ⟨hears_inRun _ _ (by decide), by decide⟩,
    by decide +kernel, hears rfl rfl rfl rfl (by simp), rfl⟩

theorem test_witness_StartListOutcomes : ∀ b : Byte,
    Hears .startList (req [b]) atNode ∧ Hears .startList (req [b]) (listIs listDef .ready) ∧
    Hears .startList (req [b]) (listIs { listDef with source := .schedule } .ready) ∧
    Hears .startList (req [b]) (listIs { listDef with source := .schedule } .armed) ∧
    Hears .startList (req [b]) (listIs { listDef with source := .schedule } .active) ∧
    Hears .startList (req [b]) (listIs listDef .resting) ∧ (inRun.list 7).defn = none := fun _ =>
  ⟨hears_atNode _ _ (by simp), hears rfl rfl rfl rfl (by simp), hears rfl rfl rfl rfl (by simp),
    hears rfl rfl rfl rfl (by simp), hears rfl rfl rfl rfl (by simp), hears rfl rfl rfl rfl (by simp),
    by decide +kernel⟩

/-- 12 §12.7: STARTED, ARMED, RESTARTED; ABSENT and BUSY. -/
theorem test_startList_outcomes :
    sent (exec (.startList (req [0])) (listIs listDef .ready)) = some (163, [0, 1, 3]) ∧
    sent (exec (.startList (req [0])) (listIs { listDef with source := .schedule } .ready))
      = some (163, [0, 2, 2]) ∧
    sent (exec (.startList (req [0])) (listIs listDef .active)) = some (163, [0, 4, 3]) ∧
    sent (exec (.startList (req [7])) inRun) = some (255, [0x23, 7, 0]) ∧
    sent (exec (.startList (req [0])) (listIs { listDef with source := .schedule } .active))
      = some (255, [0x23, 5, 0]) := by decide +kernel

theorem test_witness_StopListOutcomes : ∀ b option : Byte,
    Hears .stopList (req [b, option]) (listIs listDef .active) ∧
    Hears .stopList (req [b, option]) (listIs listDef .resting) ∧
    Hears .stopList (req [b, option]) (listIs listDef .armed) ∧ Hears .stopList (req [b, option]) inRun ∧
    (req [b, option]).body.length = 2 := fun _ _ =>
  ⟨hears rfl rfl rfl rfl (by simp), hears rfl rfl rfl rfl (by simp), hears rfl rfl rfl rfl (by simp),
    hears_inRun _ _ (by simp), rfl⟩

/-- A node whose list 0 stands at a step, with an expiry stamp of 40. -/
def standing (x : StepRecord) : State :=
  let s := withList { ListRecord.fresh (some listDef) with state := .active, expiry := some 40 }
  { s with se := { s.se with steps := s.se.steps.set 0 x } }

/-- A node whose list 0 rests until stamp 100. -/
def resting : State :=
  listIs { listDef with passPeriod := 100 } .resting

theorem test_witness_ListStampsReached :
    (currentStep (standing (.wait 40)) 0 = some (.wait 40) ∧ (standing (.wait 40)).reaches 40 = true) ∧
    (currentStep (standing (.await 1 (some 1))) 0 = some (.await 1 (some 1)) ∧
      (standing (.await 1 (some 1))).reaches 40 = true) ∧
    ((resting.list 0).state = .resting ∧ resting.reaches 100 = true) ∧
    (inRun.list 0).state ≠ .active ∧ (inRun.list 0).state ≠ .resting := by decide +kernel

/-- 1.7.1: at its rest stamp a list is ACTIVE again and its pass begins at that stamp. -/
theorem test_rest_stamp :
    seen (fun t => ((t.list 0).state, (t.list 0).passStart, (t.list 0).inFlight)) (exec (.restStamp 0) resting)
      = some (.active, 100, true) := by decide +kernel

theorem test_witness_StepsAndRunsBegin :
    currentStep busy 0 = some .reset ∧ currentStep (standing (.wait 65535)) 0 = some (.wait 65535) ∧
    currentStep (standing (.await 3 none)) 0 = some (.await 3 none) ∧
    (busy.list 0).stepIndex + 1 < listDef.stepCount ∧
    (withList { ListRecord.fresh (some listDef) with state := .active, stepIndex := 1 }).list 0
      = { ListRecord.fresh (some listDef) with state := .active, stepIndex := 1 } := by decide +kernel

theorem test_witness_RunEnds : (busy.list 0).defn = some listDef ∧ (inRun.list 0).defn ≠ some listDef := by
  decide +kernel

theorem test_witness_TriggerTaken :
    (busy.list 0).defn = some listDef ∧ listDef.source = .host ∧ listDef.source ≠ .schedule ∧
    (inRun.list 0).defn = none := by decide +kernel

/-- 2.8.3 and 01 R12: the record of a list whose flag is clear is disregarded. -/
theorem test_witness_RecordReachesList :
    (inRun.list 0).inFlight = false ∧ (busy.list 0).inFlight = true ∧ (busy.list 0).defn = some listDef ∧
    (recordToList 0 true busy).nq.notices.map (fun n => n.body.code) = [1, 4] := by decide +kernel

/-! ### Witnesses: notices, layouts and invariants -/

/-- A full queue of 31 notices and a NOTICES_LOST that counts one loss at stamp 9. -/
def lossy : NoticeQueue := (queued 31).raise 9 .fifoFull

theorem test_witness_NoticeRaised :
    ((queued 30).hasLost = false ∧ (queued 30).notices.length < 31) ∧
    ((queued 31).hasLost = false ∧ 31 ≤ (queued 31).notices.length) ∧
    (lossy.hasLost = true ∧ 32 ≤ lossy.notices.length) ∧
    ({ lossy with notices := lossy.notices.drop 1 }).hasLost = true := by decide +kernel

theorem test_witness_PollCarriesNotices : ∀ a b most : Byte,
    Hears .poll (req [a, b, most]) { inRun with nq := shown } ∧ (req [a, b, most]).body.length = 3 ∧
    shown.notices = [] ++ { seq := 1, stamp := 0, body := .fifoFull, delivered := true } :: shown.notices.drop 1 := fun _ _ _ =>
  ⟨hears rfl rfl rfl rfl (by simp), rfl, by decide +kernel⟩

/-- 08 R132: a maximum of 0 or 17 is refused; 16 is not, and a loss not yet shown is carried over. -/
theorem test_poll_bounds :
    sent (exec (.poll (req [0, 0, 17])) inRun) = some (255, [0x60, 3, 3]) ∧
    sent (exec (.poll (req [0, 0, 0])) inRun) = some (255, [0x60, 3, 3]) ∧
    ((lossy.deliver 32).raise 10 .fifoFull).lost.map LostRecord.lost = some 2 ∧
    ((((lossy.deliver 32).raise 10 .fifoFull).acknowledge 11 32).1.notices.map Notice.body)
      = [.noticesLost 1 10] := by decide +kernel

theorem test_witness_DefinitionsReadBack :
    (1 ≤ listDef.stepCount ∧ listDef.firstStep + listDef.stepCount ≤ 128 ∧ listDef.source ≠ .listDone 0 ∧
      listDef.passPeriod = 0) ∧
    (({ listDef with firstStep := 127, stepCount := 1, passPeriod := 1000000000 } : ListDef).firstStep ≤ 127) ∧
    (watchDef.low < watchDef.high ∧ watchDef.high ≤ 4095 ∧
      watchDef.hysteresis ≤ (watchDef.high - watchDef.low) / 2 ∧ 1 ≤ watchDef.confirm ∧
      watchDef.confirm ≤ 15) := by decide +kernel

/-- 12 R182, 01 R7: the detail of the first field that a DEFINE_LIST body for list 3 has out of range,
one byte of a good body changed at a time; a self-named LIST_DONE; a sum above 128. -/
theorem test_list_definition_details :
    ([(1, 128, 2), (1, 127, 3), (2, 0, 3), (2, 129, 3), (3, 5, 4), (7, 60, 8), (10, 99, 8), (11, 3, 12),
      (12, 4, 13)] : List (Nat × Byte × Nat)).all (fun x =>
        match parseListDef ((u8 3 ++ listDefBytes listDef).set x.1 x.2.1) 3 with
        | .error n => n == x.2.2
        | .ok _ => false) = true ∧
    ([.capture 0, .watch 11 .above, .listDone 3] : List TriggerSource).map (fun src =>
        (parseListDef ((u8 3 ++ listDefBytes { listDef with source := src }).set 4 (match src with
          | .capture _ => 4
          | .watch _ _ => 0x3C
          | _ => 3)) 3).toBool) = [false, false, false] := by decide +kernel

/-- 12 R182, 05 R91: the same for a SET_WATCH body. -/
theorem test_watch_definition_details :
    ([(1, 16, 2), (2, 16, 3), (4, 16, 5), (4, 0, 5), (6, 4, 7), (8, 0, 9), (8, 16, 9), (9, 0x61, 10),
      (10, 0x31, 11), (11, 0x73, 12)] : List (Nat × Byte × Nat)).all (fun x =>
        match parseWatchDef ((u8 0 ++ watchDefBytes watchDef).set x.1 x.2.1) with
        | .error n => n == x.2.2
        | .ok _ => false) = true := by decide +kernel

theorem test_witness_StepKeepsNoticeQueueShape :
    lossy.Shaped ∧ ∃ t, step { inRun with nq := lossy } = .next t := by
  refine ⟨⟨by decide +kernel, by decide +kernel, by decide +kernel, by decide +kernel, by decide +kernel,
    by decide +kernel, by decide +kernel, ?_⟩, _, rfl⟩
  have all : ∀ n ∈ lossy.notices, n.body = .fifoFull ∨ n.body = .noticesLost 1 9 := by decide +kernel
  intro n hn c f hb
  rcases all n hn with h | h <;> rw [h] at hb
  · cases hb
  · cases hb
    exact ⟨_, rfl, by decide +kernel⟩

/-- A node whose watch 0 has one record of two pointing ABOVE. -/
def pointing : State :=
  inRun.setWatch 0 (some { WatchEntry.fresh watchDef with pending := some .above, count := 1 })

theorem test_witness_StepKeepsBoundsGrantAndTickets :
    (withTickets 8).Bounded ∧ busy.GrantMatchesConverter ∧ (withTickets 8).TicketsDiffer ∧
    { busy with ca := { busy.ca with nextTicket := 127 }
                su := { busy.su with nextHandle := 255 } }.NumbersInRange ∧
    pointing.WatchesSound ∧ ∃ t, step busy = .next t := by
  refine ⟨⟨by decide +kernel, by decide +kernel, by decide +kernel, by decide +kernel⟩, rfl,
    ⟨by decide +kernel, by decide +kernel⟩, ⟨by decide, by decide⟩, fun w e h => ?_, _, rfl⟩
  have other : ∀ w : Fin 12, w = 0 ∨ pointing.watch w = none := by decide +kernel
  rcases other w with rfl | hw
  · obtain rfl : e = { WatchEntry.fresh watchDef with pending := some .above, count := 1 } := by
      revert h; rintro ⟨⟩; rfl
    exact ⟨by decide, by decide, by decide, nofun, by decide, by decide, fun _ => rfl⟩
  · rw [hw] at h; cases h

theorem test_witness_StepKeepsListsSoundAndQuiet :
    busy.ListsSound ∧ busy.QuietOutsideRun ∧ inSafe.QuietOutsideRun :=
  ⟨busy_listsSound, fun h => absurd rfl h, fun _ => ⟨by decide +kernel, rfl, rfl⟩⟩

theorem test_witness_StepServesClaims :
    busy.ListsSound ∧ busy.GrantMatchesConverter ∧ busy.claimUnserved = false :=
  ⟨busy_listsSound, rfl, by decide +kernel⟩

theorem test_witness_StepKeepsScheduleInOrder :
    (scheduledAt [entry 1 50, entry 2 50, entry 3 2147483647]).ScheduleInOrder :=
  ⟨by decide +kernel, by decide +kernel, by decide +kernel, by decide +kernel, by decide +kernel⟩

theorem test_witness_SafeHoldsLines :
    (inSafe.QuietOutsideRun ∧ inSafe.LinesSafe) ∧
    (falling.QuietOutsideRun ∧ falling.nc.state ≠ .safe ∧
      ∃ t, exec .silenceExpiry falling = .next t ∧ t.nc.state = .safe) :=
  ⟨⟨fun _ => ⟨by decide +kernel, rfl, rfl⟩, fun _ => by decide +kernel⟩, fun h => absurd rfl h, by decide,
    _, rfl, by decide +kernel⟩

theorem test_witness_SequencesComeFromCompletions :
    ∃ t, exec (.sampleEnd 4095) (converting (.ticket 1 false false) (.sampling lastSample)) = .next t ∧
      t.rs.nextSeq ≠ (converting (.ticket 1 false false) (.sampling lastSample)).rs.nextSeq :=
  ⟨_, rfl, by decide +kernel⟩

/-- The busy node at the end of its settling. -/
def settled : State := { busy with tcu := { busy.tcu with stamp := 10 } }

theorem test_witness_StepRunsFrontCommand :
    (held.pending = [] ∧ held.resetHeld = true) ∧
    (busy.pending = [] ∧ busy.resetHeld = false ∧ busy.ListsSound ∧ ∀ i, ¬ busy.EventDue i) ∧
    settled.pending = [] ∧ settled.resetHeld = false ∧ settled.ListsSound ∧ settled.EventDue .settleEnd := by
  refine ⟨⟨rfl, rfl⟩, ⟨rfl, rfl, busy_listsSound, fun i h => ?_⟩, rfl, rfl,
    ⟨busy_listsSound.sound, busy_listsSound.inFlight, busy_listsSound.converting, busy_listsSound.expiring⟩,
    .settling context rfl rfl⟩
  have expiry : ∀ k, (busy.list k).expiry = none := by decide +kernel
  have resting : ∀ k, (busy.list k).state ≠ .resting := by decide +kernel
  have bounce : ∀ k, (busy.input k).context = none := by decide +kernel
  cases h with
  | calibration h => cases h
  | check c _ _ h => cases h
  | settling c h g => cases h; exact absurd g (by decide)
  | sample c _ h => cases h
  | wait k n _ _ h => rw [expiry k] at h; cases h
  | await k i t _ _ h => rw [expiry k] at h; cases h
  | rest k d h => exact resting k h
  | debounce k i d h => rw [bounce k] at h; cases h
  | action e l h => cases h
  | silence h => cases h

end Sys2Proof.Tests
end

section
/-! A request that the node hears, from its frame on the line to the answer its owner's verdict calls for
(09 R143, R146 to R154). The statements about single requests are about the owner's verdict alone and
cite this once. -/

namespace Sys2Proof.Machine

/-- The control character of a reply keeps the low four bits of the request's (09 R148). -/
theorem replyControl_eq (f : Frame) : replyControl f = f.control &&& 0x0F := by
  apply BitVec.eq_of_toNat_eq
  have hm : (0x0F : Byte).toNat = 2 ^ 4 - 1 := rfl
  rw [BitVec.toNat_and, hm, Nat.and_two_pow_sub_one_eq_mod]
  simp only [replyControl, Frame.seq, BitVec.toNat_setWidth]
  omega

/-- The answer to a request is built from the verdict and the node's straps (09 R147, R148). -/
theorem replyFrame_requestFrame (k : Kind) (r : Req) (s : State) (body : List Byte) :
    replyFrame s.li.straps (requestFrame k r) body = answerFrame r s (kindCode k + 128) body := by
  unfold replyFrame answerFrame
  rw [replyControl_eq]; rfl

theorem refusalFrame_requestFrame (k : Kind) (r : Req) (s : State) (reason : Reason) (detail : Nat) :
    refusalFrame s.li.straps (requestFrame k r) reason detail =
      answerFrame r s 255 [kindCode k, BitVec.ofNat 8 reason.code, BitVec.ofNat 8 detail] := by
  unfold refusalFrame answerFrame
  rw [replyControl_eq]; rfl

/-- The verdict on a request frame: its owner's, where its body has the length of its kind (09 R146). -/
theorem decideRequest_requestFrame (k : Kind) (r : Req) (s : State) :
    decideRequest (requestFrame k r) s =
      if bodyLengthOk k r.body then owner k r.body s else .refuse .length 0 := by
  unfold decideRequest
  rw [show (requestFrame k r).kind = kindCode k from rfl, kindOf_kindCode]
  rfl

/-- An addressed request that is executed leaves what its verdict concludes (09 R143). -/
theorem executeAddressed_requestFrame (k : Kind) (r : Req) (s : State) (h : r.address ≠ 31) :
    executeAddressed (requestFrame k r) s.heard =
      concludes k r s (decideRequest (requestFrame k r) (s.taken k r)) := by
  have reply := replyFrame_requestFrame k r (s.taken k r)
  have refusal := refusalFrame_requestFrame k r (s.taken k r)
  unfold executeAddressed
  dsimp only
  rw [show s.heard.hold (some (requestFrame k r, .executing)) = s.taken k r from rfl]
  cases decideRequest (requestFrame k r) (s.taken k r) with
  | refuse reason detail => simp only [replyTo, refusal, concludes, refuses, if_neg h]; rfl
  | accept body after => simp only [replyTo, reply, concludes, accepts, if_neg h]; rfl

/-- A broadcast of an eligible kind leaves what its verdict concludes (09 R153, R154). -/
theorem takeBroadcast_requestFrame (k : Kind) (r : Req) (s : State) (h : r.address = 31)
    (hk : broadcastEligible k = true) :
    takeBroadcast (requestFrame k r) s.heard =
      concludes k r s (decideRequest (requestFrame k r) (s.taken k r)) := by
  have he : eligible (requestFrame k r).kind = true := by
    unfold eligible
    rw [show (requestFrame k r).kind = kindCode k from rfl, kindOf_kindCode]
    exact hk
  unfold takeBroadcast
  rw [if_pos he, show s.heard.hold (some (requestFrame k r, .executing)) = s.taken k r from rfl]
  cases decideRequest (requestFrame k r) (s.taken k r) with
  | refuse reason detail => simp only [concludes, refuses, if_pos h]
  | accept body after => simp only [concludes, accepts, if_pos h]; rfl

/-- A request that the node hears is decided by its length and its owner, in the state in which it is
delivered. -/
theorem exec_hears {i : Instr} {k : Kind} {r : Req} {s : State} (hi : i.request = some (k, r))
    (h : Hears k r s) :
    exec i s = .next (if bodyLengthOk k r.body then concludes k r s (owner k r.body (s.taken k r))
      else refuses k r s .length 0) := by
  have concluded : concludes k r s (decideRequest (requestFrame k r) (s.taken k r)) =
      if bodyLengthOk k r.body then concludes k r s (owner k r.body (s.taken k r))
      else refuses k r s .length 0 := by
    rw [decideRequest_requestFrame]; split <;> rfl
  have address : (requestFrame k r).address = r.address := rfl
  rw [exec_request i k r s hi, ← concluded]
  rcases h.form with ⟨addressed, unanswered⟩ | ⟨broadcast, eligible⟩
  · have notAll : r.address ≠ 31 := by
      intro e; rw [e] at addressed; simp [addressedTo] at addressed; omega
    rw [hostSends_delivered k r s h.free (.inl addressed), address,
      if_neg (by simpa [broadcastAddress] using notAll), ← executeAddressed_requestFrame k r s notAll]
    unfold takeAddressed
    rw [show s.heard.rh.cache = s.rh.cache from rfl]
    unfold State.cacheAnswers at unanswered
    split
    · next c hc =>
      rw [hc] at unanswered
      rw [show c.matches (requestFrame k r) = false from unanswered]
      rfl
    · rfl
  · rw [hostSends_delivered k r s h.free (.inr broadcast), address, if_pos (by simp [broadcast, broadcastAddress]),
      takeBroadcast_requestFrame k r s broadcast eligible]

/-- The same for a body of the length its kind calls for: only the owner's verdict is left. -/
theorem exec_owned {i : Instr} {k : Kind} {r : Req} {s : State} (hi : i.request = some (k, r))
    (h : Hears k r s) (length : bodyLengthOk k r.body = true) :
    exec i s = .next (concludes k r s (owner k r.body (s.taken k r))) := by
  rw [exec_hears hi h, if_pos length]

end Sys2Proof.Machine
end

section
/-! What every step keeps, said once: a predicate of states that the line, the hand, the timer, each owner
and each event keep is kept by every step. Each invariant is then a statement about the blocks. -/

namespace Sys2Proof.Machine

/-- A predicate of states that every block's part of a step keeps: the queue and the free counter, the
Line Interface and the request in hand, the silence timer as a good frame restarts it, what an owner
accepts, the passing of time, the resets, and each event. -/
structure KeptByBlocks (P : State → Prop) : Prop where
  queue : ∀ s q, P s → P (s.withPending q)
  free : ∀ s : State, P s → P s.useFree
  line : ∀ (s : State) x, P s → P { s with li := x }
  hand : ∀ (s : State) x, P s → P { s with rh := x }
  timer : ∀ s, P s → P (restartTimer s)
  owner : ∀ k b s body after, P s → owner k b s = .accept body after → P after
  tick : ∀ s, P s → P (tick s)
  por : ∀ straps s, P s → P (por straps s)
  pinReset : ∀ s, P s → P (pinReset s)
  pinRelease : ∀ straps s, P s → P (pinRelease straps s)
  softReset : ∀ s, P s → P (softReset s)
  calibrationEnd : ∀ s, P s → P (calibrationEnd s)
  checkEnd : ∀ charged discharged s, P s → P (checkEnd charged discharged s)
  settleEnd : ∀ s, P s → P (settleEnd s)
  sampleEnd : ∀ level s, P s → P (sampleEnd level s)
  waitExpiry : ∀ k s, P s → P (waitExpiry k s)
  awaitTimeout : ∀ k s, P s → P (awaitTimeout k s)
  restStamp : ∀ k s, P s → P (restReached k s)
  capturePinChange : ∀ k v s, P s → P (capturePinChange k v s)
  debounceEnd : ∀ k s, P s → P (debounceEnd k s)
  actionFiring : ∀ s, P s → P (actionFiring s)
  silenceExpiry : ∀ s, P s → P (silenceExpiry s)

/-- What is due keeps a predicate that its effect keeps at its stamp. -/
theorem State.whenDue_keeps {P : State → Prop} {s : State} {due : Option Stamp} {f : State → State}
    (h : P s) (hf : ∀ d, P (f (s.advance d))) : P (s.whenDue due f) := by
  rcases s.whenDue_cases due f with e | ⟨d, -, -, -, e⟩ <;> rw [e]
  · exact h
  · exact hf d

/-- A fold of operations that each keep a predicate keeps it. -/
theorem foldl_keeps {α : Type} {P : State → Prop} {f : State → α → State}
    (hf : ∀ s a, P s → P (f s a)) : ∀ (l : List α) (s : State), P s → P (l.foldl f s)
  | [], _, h => h
  | a :: l, s, h => foldl_keeps hf l (f s a) (hf s a h)

namespace KeptByBlocks

variable {P : State → Prop}

/-- An addressed frame taken keeps what the owner and the line keep. -/
theorem takeAddressed (h : KeptByBlocks P) (f : Frame) {s : State} (hs : P s) : P (takeAddressed f s) := by
  have send : ∀ (t : State) reply, P t → P (t.send f reply) := fun t reply ht => h.line _ _ (h.hand t _ ht)
  have executed : P (executeAddressed f s) := by
    have held : P (s.hold (some (f, .executing))) := h.hand s _ hs
    unfold executeAddressed
    dsimp only
    refine send _ _ (h.hand _ _ ?_)
    cases hd : decideRequest f (s.hold (some (f, .executing))) with
    | refuse reason detail => exact held
    | accept body after =>
      unfold decideRequest at hd
      split at hd
      · cases hd
      · split at hd
        · exact h.owner _ _ _ _ _ held hd
        · cases hd
  unfold Machine.takeAddressed
  split
  · split
    · exact send _ _ hs
    · exact executed
  · exact executed

/-- So does a broadcast frame taken. -/
theorem takeBroadcast (h : KeptByBlocks P) (f : Frame) {s : State} (hs : P s) : P (takeBroadcast f s) := by
  unfold Machine.takeBroadcast
  split
  · split
    · next body after hd =>
      refine h.hand _ _ ?_
      unfold decideRequest at hd
      split at hd
      · cases hd
      · split at hd
        · exact h.owner _ _ _ _ _ (h.hand s _ hs) hd
        · cases hd
    · exact hs
  · exact h.line _ _ hs

/-- So does the end of a frame, whatever its fate. -/
theorem endFrame (h : KeptByBlocks P) (buf : List Byte) {s : State} (hs : P s) : P (endFrame buf s) := by
  have counted : ∀ f, P (s.count f) := fun f => h.line s _ hs
  unfold Machine.endFrame
  split
  · exact counted _
  · split
    · exact counted _
    · split
      · exact counted _
      · unfold deliverFrame
        dsimp only
        split
        · exact h.takeBroadcast _ (h.timer _ (counted _))
        · exact h.takeAddressed _ (h.timer _ (counted _))

theorem gap (h : KeptByBlocks P) {s : State} (hs : P s) : P (gap s) := by
  unfold Machine.gap
  split
  · exact hs
  · split
    · exact hs
    · exact h.endFrame _ (h.line s _ hs)
    all_goals exact h.line s _ hs

theorem characterComplete (h : KeptByBlocks P) (value : Byte) (good : Bool) {s : State} (hs : P s) :
    P (characterComplete value good s) := by
  unfold Machine.characterComplete
  split
  · exact hs
  · exact h.line _ _ (h.line s _ hs)

theorem hostSends (h : KeptByBlocks P) (k : Kind) (r : Req) {s : State} (hs : P s) : P (hostSends k r s) :=
  h.gap (foldl_keeps (fun _ c => h.characterComplete c true) _ _ (h.gap hs))

theorem sendingStart (h : KeptByBlocks P) {s : State} (hs : P s) : P (sendingStart s) := by
  unfold Machine.sendingStart
  split
  · refine h.line _ _ (h.line _ _ ?_)
    split
    · exact h.line s _ hs
    · exact hs
  · exact hs
  · exact hs

theorem sendingEnd (h : KeptByBlocks P) {s : State} (hs : P s) : P (sendingEnd s) := by
  have released : P (((s.setTx .idle).setRx .syncing).hold none) := h.hand _ _ (h.line _ _ (h.line s _ hs))
  unfold Machine.sendingEnd
  split
  · dsimp only
    split
    · exact h.softReset _ released
    · exact released
  · exact hs
  · exact hs

/-- Every command keeps it. -/
theorem exec (h : KeptByBlocks P) {i : Instr} {s t : State} (hs : P s) (ht : exec i s = .next t) : P t := by
  cases hi : i.request with
  | some kr =>
    rw [exec_request i kr.1 kr.2 s hi] at ht
    cases ht
    exact h.hostSends _ _ hs
  | none =>
    cases i with
    | por straps => cases ht; exact h.por straps s hs
    | pinReset => cases ht; exact h.pinReset s hs
    | pinRelease straps => cases ht; exact h.pinRelease straps s hs
    | calibrationEnd => cases ht; exact h.calibrationEnd s hs
    | gap => cases ht; exact h.gap hs
    | sendingStart => cases ht; exact h.sendingStart hs
    | sendingEnd => cases ht; exact h.sendingEnd hs
    | checkEnd charged discharged => cases ht; exact h.checkEnd charged discharged s hs
    | settleEnd => cases ht; exact h.settleEnd s hs
    | sampleEnd level => cases ht; exact h.sampleEnd level s hs
    | waitExpiry k => cases ht; exact h.waitExpiry k s hs
    | awaitTimeout k => cases ht; exact h.awaitTimeout k s hs
    | restStamp k => cases ht; exact h.restStamp k s hs
    | capturePinChange k v => cases ht; exact h.capturePinChange k v s hs
    | debounceEnd k => cases ht; exact h.debounceEnd k s hs
    | actionFiring => cases ht; exact h.actionFiring s hs
    | silenceExpiry => cases ht; exact h.silenceExpiry s hs
    | characterComplete value good => cases ht; exact h.characterComplete value good hs
    | _ => cases hi

/-- Every step keeps it: the command at the front, an event due now, or one microsecond. -/
theorem step (h : KeptByBlocks P) {s t : State} (hs : P s) (ht : step s = .next t) : P t := by
  cases hp : s.pending with
  | cons i rest =>
    unfold Machine.step at ht
    rw [hp] at ht
    exact h.exec (h.queue s rest hs) ht
  | nil =>
    rw [step_idle hp] at ht
    rcases idleStep_cases s with e | ⟨i, -, -, e⟩ <;> rw [e] at ht
    · cases ht; exact h.tick s hs
    · exact h.exec (h.free s hs) ht

end KeptByBlocks

end Sys2Proof.Machine
end

section
/-! How the lists stand, in the middle of an event too. `State.ListsSound` says it of the states between
commands; inside an event two things are looser: a list may bear the mark of an edge that is being handled,
and a list's in-flight flag may outlive the grant that has just completed. `State.Standing` names the lists
allowed each; every operation of the Scan Engine keeps it, and with no list allowed either it is
`ListsSound` (01 R5 to R7, R17, 02 R31). -/

namespace Sys2Proof.Machine

/-! ### The invariant -/

/-- The step a record stands at in a step memory; what `currentStep` reads of a state. -/
def ListRecord.stepIn (l : ListRecord) (steps : Vector StepRecord 128) : Option StepRecord :=
  match l.defn with
  | none => none
  | some d => steps.toList[d.firstStep + l.stepIndex]?

theorem currentStep_eq (s : State) (k : Fin 8) : currentStep s k = (s.list k).stepIn s.se.steps := rfl

/-- The part of a list record's soundness that no stage of an event loosens. -/
structure ListRecord.Defined (l : ListRecord) : Prop where
  defined : l.defn = none ↔ l.state = .undefined
  covered : ∀ d, l.defn = some d → 1 ≤ d.stepCount ∧ d.firstStep + d.stepCount ≤ 128
  passes : ∀ d, l.defn = some d → d.passCount ≠ 0 → l.passes ≤ d.passCount

/-- How a list's record stands: with the step memory, with whether the grant record names the list, with
whether its conversion has completed and the record is on its way, and with whether it may be marked. -/
structure ListRecord.Stands (steps : Vector StepRecord 128) (owned : Bool) (out marked : Prop)
    (l : ListRecord) : Prop extends l.Defined where
  index : ∀ d, l.defn = some d → l.stepIndex < d.stepCount
  still : l.state ≠ .active → l.stepIndex = 0 ∧ l.expiry = none ∧ l.inFlight = false
  unfinished : ∀ d, l.defn = some d → d.passCount ≠ 0 → l.state = .active ∨ l.state = .resting →
    l.passes < d.passCount
  mark : l.edgeWaiting = true → marked ∧ l.state = .active ∧ ∃ i t, l.stepIn steps = some (.await i t)
  holds : owned = true → l.inFlight = true ∧ ¬ out
  held : l.inFlight = true → owned = true ∨ out
  converting : l.inFlight = true → ∃ c g, l.stepIn steps = some (.convert c g)
  expiring : l.expiry.isSome = true →
    (∃ n, l.stepIn steps = some (.wait n)) ∨ ∃ i n, l.stepIn steps = some (.await i (some n))

/-- Every list but those excepted stands, with the lists that may be marked and those whose record is on
its way. -/
def State.StandingBut (except marks out : Fin 8 → Prop) (s : State) : Prop :=
  ∀ k, ¬ except k → (s.list k).Stands s.se.steps (s.ca.ownedByList k) (out k) (marks k)

/-- Every list stands. -/
def State.Standing (marks out : Fin 8 → Prop) (s : State) : Prop := s.StandingBut (fun _ => False) marks out

/-- No list. -/
def noList : Fin 8 → Prop := fun _ => False

/-- The lists of a set but for one. -/
def butList (p : Fin 8 → Prop) (k : Fin 8) : Fin 8 → Prop := fun j => p j ∧ j ≠ k

/-- Between commands no list is marked and no record is on its way. -/
theorem listsSound_iff (s : State) : s.ListsSound ↔ s.Standing noList noList := by
  constructor
  · intro h k _
    have hk := h.sound k
    exact { hk with
      mark := fun e => absurd hk.unmarked (by simp [e])
      holds := fun e => ⟨(h.inFlight k).mpr e, id⟩
      held := fun e => .inl ((h.inFlight k).mp e)
      converting := h.converting k
      expiring := h.expiring k }
  · intro h
    have hk := fun k => h k id
    refine ⟨fun k => { hk k with unmarked := ?_ }, fun k => ⟨fun e => ?_, fun e => ((hk k).holds e).1⟩,
      fun k => (hk k).converting, fun k => (hk k).expiring⟩
    · exact Bool.eq_false_iff.mpr fun e => ((hk k).mark e).1
    · exact ((hk k).held e).resolve_right id

section
variable {except marks out : Fin 8 → Prop} {s t : State} {k : Fin 8}

/-- How the lists stand is read from the Scan Engine and the grant record alone. -/
theorem State.StandingBut.of_eq (h : s.StandingBut except marks out) (hse : t.se = s.se)
    (hg : t.ca.grant = s.ca.grant) : t.StandingBut except marks out := by
  intro k hk
  have := h k hk
  unfold State.list Arbiter.ownedByList at *
  rwa [hse, hg]

theorem State.Standing.of_eq (h : s.Standing marks out) (hse : t.se = s.se)
    (hg : t.ca.grant = s.ca.grant) : t.Standing marks out := State.StandingBut.of_eq h hse hg

theorem State.Standing.but (h : s.Standing marks out) (k : Fin 8) :
    s.StandingBut (· = k) marks out := fun j _ => h j id

/-- More lists may be marked. -/
theorem State.Standing.mono {marks' : Fin 8 → Prop} (h : s.Standing marks out)
    (hm : ∀ k, marks k → marks' k) : s.Standing marks' out := fun k hk =>
  { h k hk with mark := fun e => ⟨hm k ((h k hk).mark e).1, ((h k hk).mark e).2⟩ }

/-- A list that is excepted is free to be marked, or not. -/
theorem State.StandingBut.unmark (h : s.StandingBut (· = k) marks out) :
    s.StandingBut (· = k) (butList marks k) out := fun j hj =>
  { h j hj with mark := fun e => ⟨⟨((h j hj).mark e).1, hj⟩, ((h j hj).mark e).2⟩ }

/-- A list that is excepted is free to have its record on its way, or not. -/
theorem State.StandingBut.unsend (h : s.StandingBut (· = k) marks out) :
    s.StandingBut (· = k) marks (butList out k) := fun j hj =>
  { h j hj with
    holds := fun e => ⟨((h j hj).holds e).1, fun o => ((h j hj).holds e).2 o.1⟩
    held := fun e => ((h j hj).held e).imp_right fun o => ⟨o, hj⟩ }

/-- Where the excepted list stands too, all do. -/
theorem State.StandingBut.all (h : s.StandingBut (· = k) marks out)
    (hk : (s.list k).Stands s.se.steps (s.ca.ownedByList k) (out k) (marks k)) : s.Standing marks out := by
  intro j _
  by_cases e : j = k
  · subst e; exact hk
  · exact h j e

/-- A change of the excepted list's record is free. -/
theorem State.StandingBut.updList (h : s.StandingBut (· = k) marks out) (f : ListRecord → ListRecord) :
    (s.updList k f).StandingBut (· = k) marks out := by
  intro j hj
  have := h j hj
  rwa [State.list_updList_ne s k j f hj]

/-- All stand after a change of one list's record that leaves it standing. -/
theorem State.StandingBut.updList_all (h : s.StandingBut (· = k) marks out) {f : ListRecord → ListRecord}
    (hf : (f (s.list k)).Stands s.se.steps (s.ca.ownedByList k) (out k) (marks k)) :
    (s.updList k f).Standing marks out :=
  (h.updList f).all (by rw [State.list_updList_self]; exact hf)

theorem State.Standing.updList (h : s.Standing marks out) {f : ListRecord → ListRecord}
    (hf : (f (s.list k)).Stands s.se.steps (s.ca.ownedByList k) (out k) (marks k)) :
    (s.updList k f).Standing marks out := (h.but k).updList_all hf

theorem State.StandingBut.raiseIf (h : s.StandingBut except marks out) (c : Bool) (b : NoticeBody) :
    (s.raiseIf c b).StandingBut except marks out := h.of_eq (by simp) (by simp)

theorem State.Standing.raiseIf (h : s.Standing marks out) (c : Bool) (b : NoticeBody) :
    (s.raiseIf c b).Standing marks out := State.StandingBut.raiseIf h c b

/-! ### Who owns the conversion in flight -/

theorem ownedByList_none {a : Arbiter} (h : a.grant = none) (k : Fin 8) : a.ownedByList k = false := by
  simp [Arbiter.ownedByList, h]

theorem ownedByList_iff (a : Arbiter) (k : Fin 8) :
    a.ownedByList k = true ↔ ∃ g i, a.grant = some g ∧ g.owner = .list k i := by
  unfold Arbiter.ownedByList
  split
  · next j i c o st hg => simp [hg]
  · next hno =>
    simp only [Bool.false_eq_true, false_iff, not_exists, not_and]
    rintro ⟨o, c, x, st⟩ i hg rfl
    exact hno k i c x st hg

/-- At most one list owns it. -/
theorem ownedByList_unique {a : Arbiter} {j k : Fin 8} (hj : a.ownedByList j = true)
    (hk : a.ownedByList k = true) : j = k := by
  obtain ⟨g, i, hg, ho⟩ := (ownedByList_iff a j).mp hj
  obtain ⟨g', i', hg', ho'⟩ := (ownedByList_iff a k).mp hk
  rw [hg] at hg'
  cases hg'
  rw [ho] at ho'
  cases ho'
  rfl

/-- A list that is not ACTIVE owns none (02 R31). -/
theorem ListRecord.Stands.not_owned {steps : Vector StepRecord 128} {owned : Bool} {o m : Prop}
    {l : ListRecord} (h : l.Stands steps owned o m) (hs : l.inFlight = false) : owned = false :=
  Bool.eq_false_iff.mpr fun e => absurd (h.holds e).1 (by simp [hs])

/-- A list stands at a step of the step memory (01 R5, R7). -/
theorem stepIn_isSome {l : ListRecord} {steps : Vector StepRecord 128} (h : l.Defined)
    (hs : l.state ≠ .undefined) (hi : ∀ d, l.defn = some d → l.stepIndex < d.stepCount) :
    ∃ x, l.stepIn steps = some x := by
  unfold ListRecord.stepIn
  split
  · next e => exact absurd (h.defined.mp e) hs
  · next d e =>
    have hc := h.covered d e
    have := hi d e
    exact ⟨_, List.getElem?_eq_getElem (by simp; omega)⟩

end

/-! ### Grants -/

section
variable {marks out : Fin 8 → Prop} {s : State} {k : Fin 8}

/-- A grant keeps how the lists stand, where no record is on its way (02 R36 to R38). -/
theorem makeGrant_standing (h : s.Standing marks out) (ho : ∀ k, ¬ out k) :
    (makeGrant s).Standing marks out := by
  rcases makeGrant_cases s with e | ⟨-, hg, x, rest, -, e⟩ | ⟨-, hg, -, j, hj, e⟩ <;> rw [e]
  · exact h
  · intro i hi
    have := h i hi
    rw [ownedByList_none hg] at this
    exact this
  · obtain ⟨hc, level, hl, -⟩ := chosenList_spec hj
    have claims := hc
    simp only [listClaims, Bool.and_eq_true, beq_iff_eq, Bool.not_eq_true'] at claims
    obtain ⟨⟨active, free⟩, atConvert⟩ := claims
    split at atConvert
    · next c g hs =>
      have granted : ∀ i, (grantList s j).ca.ownedByList i = (j == i) := by
        intro i; unfold grantList; rw [hs, hl]; rfl
      have lists : ∀ i, (grantList s j).list i =
          if i = j then { s.list j with inFlight := true } else s.list i := by
        intro i; unfold grantList; rw [hs, hl]
        simp only [State.list_giveConverter, State.list_updList]
        rfl
      intro i _
      have hi := h i id
      have same : (grantList s j).se.steps = s.se.steps := (grantList_only s j).steps
      rw [granted, lists, same]
      by_cases e : i = j
      · subst e
        rw [if_pos rfl, beq_self_eq_true]
        have noExpiry : (s.list i).expiry = none := by
          by_contra ne
          rw [currentStep_eq] at hs
          rcases hi.expiring (Option.isSome_iff_ne_none.mpr ne) with ⟨n, w⟩ | ⟨_, n, w⟩ <;>
            rw [hs] at w <;> cases w
        exact { hi with
          still := fun ne => absurd active ne
          holds := fun _ => ⟨rfl, ho i⟩
          held := fun _ => .inl rfl
          converting := fun _ => ⟨c, g, hs⟩ }
      · rw [if_neg e, show (j == i) = false from beq_eq_false_iff_ne.mpr fun e' => e e'.symm]
        rw [ownedByList_none hg] at hi
        exact hi
    · cases atConvert

/-- So does the grant that follows a claim or an abandonment, unless the event makes its own. -/
theorem grantUnless_standing {closing : Bool} (h : s.Standing marks out)
    (hc : closing = false → ∀ k, ¬ out k) : (grantUnless closing s).Standing marks out := by
  unfold grantUnless
  split
  · exact h
  · next e => exact makeGrant_standing h (hc (by simpa using e))

/-! ### Beginning a step and a run -/

/-- A list that can begin its step: ACTIVE within a pass that has not ended, and unowned. -/
structure ListRecord.CanBegin (owned : Bool) (l : ListRecord) : Prop extends l.Defined where
  active : l.state = .active
  index : ∀ d, l.defn = some d → l.stepIndex < d.stepCount
  unfinished : ∀ d, l.defn = some d → d.passCount ≠ 0 → l.passes < d.passCount
  idle : l.inFlight = false
  unowned : owned = false

theorem beginStep_standing {closing : Bool} (h : s.StandingBut (· = k) marks out)
    (hk : (s.list k).CanBegin (s.ca.ownedByList k)) (hc : closing = false → ∀ k, ¬ out k) :
    (beginStep closing k s).Standing marks out := by
  have key : ∀ e : Option Stamp, (e.isSome = true →
      (∃ n, currentStep s k = some (.wait n)) ∨ ∃ i n, currentStep s k = some (.await i (some n))) →
      (s.updList k fun l => { l with expiry := e, edgeWaiting := false }).Standing marks out := by
    intro e he
    refine h.updList_all { hk with
      still := fun ne => absurd hk.active ne
      unfinished := fun d hd hp _ => hk.unfinished d hd hp
      mark := nofun
      holds := fun o => absurd o (by simp [hk.unowned])
      held := fun f => absurd hk.idle (by simp [show (s.list k).inFlight = true from f])
      converting := fun f => absurd hk.idle (by simp [show (s.list k).inFlight = true from f])
      expiring := he }
  obtain ⟨x, hx⟩ := stepIn_isSome (steps := s.se.steps) hk.toDefined (by simp [hk.active]) hk.index
  rw [← currentStep_eq] at hx
  unfold beginStep
  cases x with
  | convert c g => rw [hx]; exact grantUnless_standing (key none nofun) hc
  | wait n => rw [hx]; exact key _ fun _ => .inl ⟨n, hx⟩
  | await i t =>
    rw [hx]
    refine key _ fun e => .inr ?_
    cases t with
    | none => cases e
    | some n => exact ⟨i, n, hx⟩

/-- A run starts in a list that has a definition and owns no conversion (01 R11). -/
theorem startRun_standing {closing : Bool} (h : s.StandingBut (· = k) marks out)
    (hd : (s.list k).Defined) (hs : (s.list k).state ≠ .undefined) (ho : s.ca.ownedByList k = false)
    (hc : closing = false → ∀ k, ¬ out k) : (startRun closing k s).Standing marks out := by
  unfold startRun
  refine beginStep_standing (h.updList _) ?_ hc
  rw [State.list_updList_self]
  exact
    { defined := ⟨fun e => absurd (hd.defined.mp e) hs, nofun⟩
      covered := hd.covered
      passes := fun _ _ _ => Nat.zero_le _
      active := rfl
      index := fun d e => (hd.covered d e).1
      unfinished := fun _ _ hp => Nat.pos_of_ne_zero hp
      idle := rfl
      unowned := ho }

/-! ### The end of a run -/

/-- The first stage of a run end clears the in-flight flag and nothing else of the list (01 R20 step 1). -/
theorem list_leaveConverter_self (k : Fin 8) (s : State) :
    (leaveConverter k s).list k = { s.list k with inFlight := false } := by
  unfold leaveConverter
  split
  · simp
  · next e =>
    have : (s.list k).inFlight = false := by simpa using e
    rw [← this]

theorem list_leaveConverter_ne {j k : Fin 8} (s : State) (h : j ≠ k) :
    (leaveConverter k s).list j = s.list j := by
  unfold leaveConverter
  split
  · rw [State.list_abandonList, State.list_updList_ne s k j _ h]
  · rfl

/-- After an abandonment asked for by a list it owns nothing, and no other list's ownership changes
(02 R44). -/
theorem ownedByList_abandonList_self (k : Fin 8) (s : State) :
    (s.abandonList k).ca.ownedByList k = false := by
  unfold State.abandonList
  split
  · exact ownedByList_none rfl k
  · next e => simpa using e

theorem ownedByList_abandonList_ne {j k : Fin 8} (s : State) (h : j ≠ k) :
    (s.abandonList k).ca.ownedByList j = s.ca.ownedByList j := by
  unfold State.abandonList
  split
  · next e =>
    rw [ownedByList_none (a := s.abandon.ca) rfl]
    exact (Bool.eq_false_iff.mpr fun e' => h (ownedByList_unique e' e)).symm
  · rfl

theorem ownedByList_leaveConverter_self {k : Fin 8} {s : State}
    (h : s.ca.ownedByList k = true → (s.list k).inFlight = true) :
    (leaveConverter k s).ca.ownedByList k = false := by
  unfold leaveConverter
  split
  · exact ownedByList_abandonList_self ..
  · next e => exact Bool.eq_false_iff.mpr fun o => e (h o)

theorem ownedByList_leaveConverter_ne {j k : Fin 8} (s : State) (h : j ≠ k) :
    (leaveConverter k s).ca.ownedByList j = s.ca.ownedByList j := by
  unfold leaveConverter
  split
  · exact ownedByList_abandonList_ne _ h
  · rfl

/-- What closing a run leaves of its list (01 R20 steps 2 to 4). -/
theorem list_closeRun_self (k : Fin 8) (reason : EndReason) (s : State) :
    (closeRun k reason s).list k = { s.list k with
      state := if rearms s k reason then .armed else .ready, stepIndex := 0, expiry := none
      stopPending := false, inFlight := false, edgeWaiting := false
      triggerPending := if reason == .completed then (s.list k).triggerPending else false
      endRecord := some (reason, s.now) } := by
  unfold closeRun
  dsimp only
  rw [State.list_raiseIf, State.list_updList_self, list_leaveConverter_self]

theorem list_closeRun_ne {j k : Fin 8} (reason : EndReason) (s : State) (h : j ≠ k) :
    (closeRun k reason s).list j = s.list j := by
  unfold closeRun
  dsimp only
  rw [State.list_raiseIf, State.list_updList_ne _ k j _ h, list_leaveConverter_ne s h]

/-- After a run is closed the list is READY or ARMED. -/
theorem state_closeRun (k : Fin 8) (reason : EndReason) (s : State) :
    ((closeRun k reason s).list k).state = .ready ∨ ((closeRun k reason s).list k).state = .armed := by
  rw [list_closeRun_self]
  dsimp only
  split
  · exact .inr rfl
  · exact .inl rfl

theorem closeRun_standing {reason : EndReason} (h : s.StandingBut (· = k) marks out)
    (hd : (s.list k).Defined) (hs : (s.list k).state ≠ .undefined)
    (ho : s.ca.ownedByList k = true → (s.list k).inFlight = true) :
    (closeRun k reason s).Standing marks out := by
  have steps := (closeRun_only k reason s).steps
  have owned : ∀ j, (closeRun k reason s).ca.ownedByList j = (leaveConverter k s).ca.ownedByList j := by
    intro j; unfold closeRun; simp
  refine State.StandingBut.all (k := k) (fun j hj => ?_) ?_
  · have := h j hj
    rwa [list_closeRun_ne reason s hj, steps, owned, ownedByList_leaveConverter_ne s hj]
  · have ended : ((closeRun k reason s).list k).state ≠ .undefined ∧
        ((closeRun k reason s).list k).state ≠ .active ∧
        ((closeRun k reason s).list k).state ≠ .resting := by
      rcases state_closeRun k reason s with e | e <;> rw [e] <;> decide
    rw [owned, ownedByList_leaveConverter_self ho]
    rw [list_closeRun_self] at ended ⊢
    exact
      { defined := ⟨fun e => absurd (hd.defined.mp e) hs, fun e => absurd e ended.1⟩
        covered := hd.covered
        passes := hd.passes
        index := fun d e => (hd.covered d e).1
        still := fun _ => ⟨rfl, rfl, rfl⟩
        unfinished := fun _ _ _ e => e.elim (absurd · ended.2.1) (absurd · ended.2.2)
        mark := nofun
        holds := nofun
        held := nofun
        converting := nofun
        expiring := nofun }

/-! ### Triggers -/

theorem retrigger_standing {closing : Bool} {p : Policy} (h : s.Standing marks out)
    (hs : (s.list k).state ≠ .undefined) (hc : closing = false → ∀ k, ¬ out k) :
    (retrigger closing k p s).Standing marks out := by
  have hk := h k id
  unfold retrigger
  split
  · exact h.updList { hk with }
  · exact h.updList { hk with }
  · have closed := closeRun_standing (reason := .retriggered) (h.but k) hk.toDefined hs
      fun o => (hk.holds o).1
    have ended := state_closeRun k .retriggered s
    have hk' := closed k id
    refine grantUnless_standing (startRun_standing (closed.but k) hk'.toDefined ?_ ?_ nofun) hc
    · rcases ended with e | e <;> rw [e] <;> decide
    · exact hk'.not_owned (hk'.still (by rcases ended with e | e <;> rw [e] <;> decide)).2.2

theorem takeTrigger_standing {closing : Bool} {src : TriggerSource} (h : s.Standing marks out)
    (hc : closing = false → ∀ k, ¬ out k) : (takeTrigger closing src k s).Standing marks out := by
  have hk := h k id
  unfold takeTrigger
  split
  · exact h
  · split
    · split
      · next e =>
        exact startRun_standing (h.but k) hk.toDefined (by simp [e])
          (hk.not_owned (hk.still (by simp [e])).2.2) hc
      · next e => exact retrigger_standing h (by simp [e]) hc
      · next e => exact retrigger_standing h (by simp [e]) hc
      · exact h
      · exact h
    · exact h

theorem deliver_standing {closing : Bool} {src : TriggerSource} (h : s.Standing marks out)
    (hc : closing = false → ∀ k, ¬ out k) : (deliver closing src s).Standing marks out :=
  foldl_keeps (P := State.Standing marks out) (fun _ _ ht => takeTrigger_standing ht hc) _ _ h

/-! ### What a list's operation does to the others -/

/-- A record that is the same, or the same but for a grant to an ACTIVE list. -/
def ListRecord.SameOrGranted (l l' : ListRecord) : Prop :=
  l' = l ∨ (l.state = .active ∧ l' = { l with inFlight := true })

theorem ListRecord.SameOrGranted.refl (l : ListRecord) : l.SameOrGranted l := .inl rfl

theorem ListRecord.SameOrGranted.trans {l l' l'' : ListRecord} (h : l.SameOrGranted l')
    (h' : l'.SameOrGranted l'') : l.SameOrGranted l'' := by
  rcases h with rfl | ⟨a, rfl⟩
  · exact h'
  · rcases h' with rfl | ⟨-, rfl⟩ <;> exact .inr ⟨a, rfl⟩

theorem ListRecord.SameOrGranted.state {l l' : ListRecord} (h : l.SameOrGranted l') :
    l'.state = l.state := by rcases h with rfl | ⟨-, rfl⟩ <;> rfl

theorem ListRecord.SameOrGranted.triggerPending {l l' : ListRecord} (h : l.SameOrGranted l') :
    l'.triggerPending = l.triggerPending := by rcases h with rfl | ⟨-, rfl⟩ <;> rfl

theorem list_makeGrant (s : State) (k : Fin 8) : (s.list k).SameOrGranted ((makeGrant s).list k) := by
  rcases makeGrant_cases s with e | ⟨-, -, x, rest, -, e⟩ | ⟨-, -, -, j, hj, e⟩ <;> rw [e]
  · exact .refl _
  · exact .refl _
  · have hc := (chosenList_spec hj).1
    simp only [listClaims, Bool.and_eq_true, beq_iff_eq] at hc
    unfold grantList
    split
    · rw [State.list_giveConverter, State.list_updList]
      split
      · next ek => subst ek; exact .inr ⟨hc.1.1, rfl⟩
      · exact .refl _
    · exact .refl _

theorem list_grantUnless (closing : Bool) (s : State) (k : Fin 8) :
    (s.list k).SameOrGranted ((grantUnless closing s).list k) := by
  cases closing
  · exact list_makeGrant s k
  · exact .refl _

/-- A step that begins changes its own list's stamp and mark. -/
theorem list_beginStep_self (closing : Bool) (k : Fin 8) (s : State) :
    ∃ e m, ListRecord.SameOrGranted { s.list k with expiry := e, edgeWaiting := m }
      ((beginStep closing k s).list k) := by
  unfold beginStep
  split
  · exact ⟨none, false, by simpa using list_grantUnless closing (s.updList k _) k⟩
  · exact ⟨_, false, by rw [State.list_updList_self]; exact .refl _⟩
  · exact ⟨_, false, by rw [State.list_updList_self]; exact .refl _⟩
  · exact ⟨_, _, .refl _⟩

theorem list_beginStep_ne {j k : Fin 8} (closing : Bool) (s : State) (h : j ≠ k) :
    (s.list j).SameOrGranted ((beginStep closing k s).list j) := by
  have other := fun f => State.list_updList_ne s k j f h
  unfold beginStep
  split
  · have := list_grantUnless closing (s.updList k fun l => { l with expiry := none, edgeWaiting := false }) j
    rwa [other] at this
  · rw [other]; exact .refl _
  · rw [other]; exact .refl _
  · exact .refl _

theorem list_startRun_ne {j k : Fin 8} (closing : Bool) (s : State) (h : j ≠ k) :
    (s.list j).SameOrGranted ((startRun closing k s).list j) := by
  unfold startRun
  have := list_beginStep_ne closing (s.updList k fun l =>
    { l with state := .active, stepIndex := 0, passes := 0, missed := 0, overruns := 0,
             preemptions := 0, runStart := s.now, passStart := s.now, stopPending := false,
             triggerPending := false, inFlight := false, expiry := none }) h
  rwa [State.list_updList_ne s k j _ h] at this

/-- A run that starts keeps no trigger (01 R11). -/
theorem triggerPending_startRun (closing : Bool) (k : Fin 8) (s : State) :
    ((startRun closing k s).list k).triggerPending = false := by
  unfold startRun
  obtain ⟨e, m, same⟩ := list_beginStep_self closing k (s.updList k fun l =>
    { l with state := .active, stepIndex := 0, passes := 0, missed := 0, overruns := 0,
             preemptions := 0, runStart := s.now, passStart := s.now, stopPending := false,
             triggerPending := false, inFlight := false, expiry := none })
  rw [same.triggerPending, State.list_updList_self]

theorem list_retrigger_ne {j k : Fin 8} (closing : Bool) (p : Policy) (s : State) (h : j ≠ k) :
    (s.list j).SameOrGranted ((retrigger closing k p s).list j) := by
  unfold retrigger
  split
  · rw [State.list_updList_ne s k j _ h]; exact .refl _
  · rw [State.list_updList_ne s k j _ h]; exact .refl _
  · have restarted := list_startRun_ne true (closeRun k .retriggered s) h
    rw [list_closeRun_ne .retriggered s h] at restarted
    exact restarted.trans (list_grantUnless ..)

theorem list_takeTrigger_ne {j k : Fin 8} (closing : Bool) (src : TriggerSource) (s : State) (h : j ≠ k) :
    (s.list j).SameOrGranted ((takeTrigger closing src k s).list j) := by
  unfold takeTrigger
  split
  · exact .refl _
  · split
    · split
      · exact list_startRun_ne closing s h
      · exact list_retrigger_ne closing _ s h
      · exact list_retrigger_ne closing _ s h
      · exact .refl _
      · exact .refl _
    · exact .refl _

/-! ### What follows a COMPLETED run -/

/-- A trigger that a list keeps for later was kept before: delivered to a list that is READY or ARMED, a
trigger starts a run, which keeps none, or does nothing (01 R22). -/
theorem state_takeTrigger_self {closing : Bool} {src : TriggerSource}
    (hs : (s.list k).state = .ready ∨ (s.list k).state = .armed)
    (ht : ((takeTrigger closing src k s).list k).triggerPending = true) :
    ((takeTrigger closing src k s).list k).state = .ready ∨
      ((takeTrigger closing src k s).list k).state = .armed := by
  unfold takeTrigger at ht ⊢
  split
  · exact hs
  · next d hd =>
    rw [hd] at ht
    dsimp only at ht
    split
    · next hsrc =>
      rw [if_pos hsrc] at ht
      rcases hs with e | e <;> rw [e] at ht ⊢
      · exact .inl e
      · rw [triggerPending_startRun] at ht; cases ht
    · exact hs

/-- Triggers delivered to the other lists change neither a list's state nor what it keeps. -/
theorem foldl_takeTrigger_ne {closing : Bool} {src : TriggerSource} : ∀ (l : List (Fin 8)) (s : State),
    k ∉ l → ((l.foldl (fun s k => takeTrigger closing src k s) s).list k).state = (s.list k).state ∧
      ((l.foldl (fun s k => takeTrigger closing src k s) s).list k).triggerPending =
        (s.list k).triggerPending
  | [], _, _ => ⟨rfl, rfl⟩
  | j :: l, s, h => by
    rw [List.mem_cons, not_or] at h
    have rest := foldl_takeTrigger_ne (closing := closing) (src := src) l (takeTrigger closing src j s) h.2
    have one := list_takeTrigger_ne closing src s h.1
    rw [List.foldl_cons]
    exact ⟨rest.1.trans one.state, rest.2.trans one.triggerPending⟩

theorem mem_allLists (k : Fin 8) : k ∈ allLists := by revert k; decide

/-- Every list is visited once. -/
theorem allLists_split (k : Fin 8) :
    ∃ before after, allLists = before ++ k :: after ∧ k ∉ before ∧ k ∉ after := by
  obtain ⟨before, after, e⟩ := List.append_of_mem (mem_allLists k)
  have nodup : allLists.Nodup := by decide
  rw [e, List.nodup_middle, List.nodup_cons, List.mem_append, not_or] at nodup
  exact ⟨before, after, e, nodup.1⟩

/-- A list that is READY or ARMED as a trigger is delivered to all, and keeps a trigger after it, is still
READY or ARMED. -/
theorem state_deliver {closing : Bool} {src : TriggerSource}
    (hs : (s.list k).state = .ready ∨ (s.list k).state = .armed)
    (ht : ((deliver closing src s).list k).triggerPending = true) :
    ((deliver closing src s).list k).state = .ready ∨ ((deliver closing src s).list k).state = .armed := by
  obtain ⟨before, after, hl, hb, ha⟩ := allLists_split k
  unfold deliver at ht ⊢
  rw [hl, List.foldl_append, List.foldl_cons] at ht ⊢
  have first := foldl_takeTrigger_ne (closing := closing) (src := src) before s hb
  have last := foldl_takeTrigger_ne (closing := closing) (src := src) after
    (takeTrigger closing src k (before.foldl (fun s k => takeTrigger closing src k s) s)) ha
  rw [last.2] at ht
  rw [last.1]
  exact state_takeTrigger_self (by rw [first.1]; exact hs) ht

theorem chain_standing {closing : Bool} (h : s.Standing marks out)
    (hs : (s.list k).state = .ready ∨ (s.list k).state = .armed)
    (hc : closing = false → ∀ k, ¬ out k) : (chain closing k s).Standing marks out := by
  have delivered : (deliver closing (.listDone k) s).Standing marks out := deliver_standing h hc
  have waits := state_deliver (closing := closing) (src := .listDone k) hs
  unfold chain
  generalize deliver closing (.listDone k) s = t at delivered waits ⊢
  dsimp only
  split
  · next pending =>
    have hk := delivered k id
    have ended := waits pending
    refine startRun_standing ((delivered.but k).updList _) ?_ ?_ ?_ hc
    · rw [State.list_updList_self]; exact { hk.toDefined with }
    · rw [State.list_updList_self]; rcases ended with e | e <;> simp [e]
    · exact hk.not_owned (hk.still (by rcases ended with e | e <;> simp [e])).2.2
  · exact delivered

theorem endRun_standing {closing : Bool} {reason : EndReason} (h : s.StandingBut (· = k) marks out)
    (hd : (s.list k).Defined) (hs : (s.list k).state ≠ .undefined)
    (ho : s.ca.ownedByList k = true → (s.list k).inFlight = true)
    (hc : closing = false → ∀ k, ¬ out k) : (endRun closing k reason s).Standing marks out := by
  have closed := closeRun_standing (reason := reason) h hd hs ho
  unfold endRun
  dsimp only
  split
  · exact chain_standing closed (state_closeRun ..) hc
  · exact closed

/-! ### The end of a pass and of a step -/

theorem list_countPass_self (d : ListDef) (k : Fin 8) (s : State) :
    (countPass d k s).list k = { s.list k with passes := morePasses d (s.list k).passes } := by
  unfold countPass
  dsimp only
  rw [State.list_raiseIf, State.list_updList_self]

theorem ca_countPass (d : ListDef) (k : Fin 8) (s : State) : (countPass d k s).ca = s.ca := by
  unfold countPass; simp

theorem countPass_standingBut (d : ListDef) (h : s.StandingBut (· = k) marks out) :
    (countPass d k s).StandingBut (· = k) marks out := by
  unfold countPass; exact (h.updList _).raiseIf _ _

/-- A list at the end of a pass: it can begin a step, its index is back at 0, and it awaits nothing. -/
structure ListRecord.PassOver (owned : Bool) (l : ListRecord) : Prop extends l.CanBegin owned where
  first : l.stepIndex = 0
  noExpiry : l.expiry = none
  unmarked : l.edgeWaiting = false

/-- A pass more is within the pass count (01 R17). -/
theorem morePasses_le {d : ListDef} {n : Nat} (h : d.passCount ≠ 0 → n < d.passCount) (hp : d.passCount ≠ 0) :
    morePasses d n ≤ d.passCount := by
  unfold morePasses; rw [if_neg hp]; exact h hp

/-- The pass counted, the list is still one with a definition that covers its passes. -/
theorem ListRecord.Defined.counted {l : ListRecord} {d : ListDef} (h : l.Defined) (hd : l.defn = some d)
    (unfinished : d.passCount ≠ 0 → l.passes < d.passCount) :
    ListRecord.Defined { l with passes := morePasses d l.passes } where
  defined := h.defined
  covered := h.covered
  passes d' hd' hp := by
    rw [show l.defn = some d' from hd'] at hd
    cases hd
    exact morePasses_le unfinished hp

theorem nextPass_standing {closing : Bool} (h : s.StandingBut (· = k) marks out)
    (hk : (s.list k).CanBegin (s.ca.ownedByList k)) (hc : closing = false → ∀ k, ¬ out k) :
    (nextPass closing k s).Standing marks out := by
  unfold nextPass
  refine beginStep_standing (h.updList _) ?_ hc
  rw [State.list_updList_self]
  exact { hk with }

theorem restOrOverrun_standing {closing : Bool} {d : ListDef} (h : s.StandingBut (· = k) marks out)
    (hk : (s.list k).PassOver (s.ca.ownedByList k)) (hc : closing = false → ∀ k, ¬ out k) :
    (restOrOverrun closing d k s).Standing marks out := by
  unfold restOrOverrun
  dsimp only
  split
  · exact h.updList_all
      { defined := ⟨fun e => absurd (hk.defined.mp e) (by simp [hk.active]), nofun⟩
        covered := hk.covered
        passes := hk.passes
        index := hk.index
        still := fun _ => ⟨hk.first, hk.noExpiry, hk.idle⟩
        unfinished := fun d' hd' hp _ => hk.unfinished d' hd' hp
        mark := fun e => absurd hk.unmarked (by simp [show (s.list k).edgeWaiting = true from e])
        holds := fun o => absurd o (by simp [hk.unowned])
        held := fun f => absurd hk.idle (by simp [show (s.list k).inFlight = true from f])
        converting := fun f => absurd hk.idle (by simp [show (s.list k).inFlight = true from f])
        expiring := fun e => absurd hk.noExpiry (by simpa [Option.isSome_iff_ne_none] using e) }
  · refine nextPass_standing ((h.updList _).raiseIf _ _) ?_ hc
    rw [State.list_raiseIf, State.list_updList_self, State.raiseIf_ca]
    exact { hk.toCanBegin with }

theorem endPass_standing {closing : Bool} {d : ListDef} (h : s.StandingBut (· = k) marks out)
    (hk : (s.list k).PassOver (s.ca.ownedByList k)) (hd : (s.list k).defn = some d)
    (hc : closing = false → ∀ k, ¬ out k) : (endPass closing d k s).Standing marks out := by
  have others := countPass_standingBut d h
  have record := list_countPass_self d k s
  have counted : ((countPass d k s).list k).Defined := by rw [record]; exact hk.toDefined.counted hd (hk.unfinished d hd)
  have present : ((countPass d k s).list k).state ≠ .undefined := by rw [record]; simp [hk.active]
  have unowned : (countPass d k s).ca.ownedByList k = false := by rw [ca_countPass]; exact hk.unowned
  have ended : ∀ reason, (endRun closing k reason (countPass d k s)).Standing marks out :=
    fun reason => endRun_standing others counted present (fun o => absurd o (by simp [unowned])) hc
  unfold endPass
  dsimp only
  split
  · exact ended _
  · split
    · exact ended _
    · next unfinished =>
      have passOver : ((countPass d k s).list k).PassOver ((countPass d k s).ca.ownedByList k) := by
        rw [unowned]
        rw [record] at counted unfinished ⊢
        exact
          { counted with
            active := hk.active
            index := hk.index
            unfinished := fun d' hd' hp => by
              have : d' = d := Option.some.inj (Eq.trans (Eq.symm hd') hd)
              subst this
              exact lt_of_le_of_ne (counted.passes d' hd' hp) fun e => unfinished ⟨hp, e⟩
            idle := hk.idle
            unowned := rfl
            first := hk.first
            noExpiry := hk.noExpiry
            unmarked := hk.unmarked }
      split
      · exact nextPass_standing others passOver.toCanBegin hc
      · exact restOrOverrun_standing others passOver hc

/-- An ACTIVE list finishes its step, its conversion gone: it stands, and is marked no more (01 R10). -/
theorem finishStep_standing {closing : Bool} (h : s.Standing marks out) (hs : (s.list k).state = .active)
    (hf : (s.list k).inFlight = false) (hc : closing = false → ∀ k, ¬ out k) :
    (finishStep closing k s).Standing (butList marks k) out := by
  have hk := h k id
  have others := (h.but k).unmark
  have unowned := hk.not_owned hf
  have notOver : ∀ d, (s.list k).defn = some d → d.passCount ≠ 0 → (s.list k).passes < d.passCount :=
    fun d hd hp => hk.unfinished d hd hp (.inl hs)
  unfold finishStep
  split
  · next e => exact absurd (hk.defined.mp e) (by simp [hs])
  · next d hd =>
    dsimp only
    split
    · next more =>
      refine beginStep_standing (others.updList _) ?_ hc
      rw [State.list_updList_self]
      exact
        { hk.toDefined with
          active := hs
          index := fun d' hd' => by
            have : d' = d := Option.some.inj (Eq.trans (Eq.symm hd') hd)
            subst this; exact more
          unfinished := notOver
          idle := hf
          unowned := unowned }
    · refine endPass_standing (others.updList _) ?_ (by rw [State.list_updList_self]; exact hd) hc
      rw [State.list_updList_self]
      exact
        { hk.toDefined with
          active := hs
          index := fun d' hd' => (hk.covered d' hd').1
          unfinished := notOver
          idle := hf
          unowned := unowned
          first := rfl
          noExpiry := rfl
          unmarked := rfl }

end

end Sys2Proof.Machine
end

section
/-! The rest of what keeps how the lists stand: a record on its way to its list, a preemption, an edge, the
node leaving RUN, the requests, and the resets. -/

namespace Sys2Proof.Machine

section
variable {marks out : Fin 8 → Prop} {s t : State} {k : Fin 8}

/-! ### Completion and preemption -/

theorem State.Standing.congr {out' : Fin 8 → Prop} (h : s.Standing marks out) (ho : ∀ k, out k ↔ out' k) :
    s.Standing marks out' := by
  have : out = out' := funext fun k => propext (ho k)
  rwa [← this]

/-- A conversion abandoned or closed: its list's record is on its way (02 R39, R43). -/
theorem abandon_standing (h : s.Standing marks noList) :
    s.abandon.Standing marks fun k => s.ca.ownedByList k = true := by
  intro k hk
  have hs := h k hk
  rw [ownedByList_none (a := s.abandon.ca) rfl]
  exact { hs with
    holds := nofun
    held := fun f => .inr ((hs.held f).resolve_right id) }

/-- The same where no list owns it: no record is on its way. -/
theorem abandon_standing_of_unowned (h : s.Standing marks noList)
    (ho : ∀ k, s.ca.ownedByList k = false) : s.abandon.Standing marks noList :=
  (abandon_standing h).congr fun k => by simp [ho k, noList]

/-- The in-flight flag of an unowned list is cleared: its record has come (01 R12, R13). -/
theorem clearInFlight_standing {f : ListRecord → ListRecord} (h : s.Standing marks out)
    (ho : s.ca.ownedByList k = false)
    (hf : ∃ n, f (s.list k) = { s.list k with inFlight := false, preemptions := n }) :
    (s.updList k f).Standing marks (butList out k) := by
  obtain ⟨n, hf⟩ := hf
  have hk := h k id
  refine (h.but k).unsend.updList_all ?_
  rw [hf]
  exact { hk with
    still := fun ne => ⟨(hk.still ne).1, (hk.still ne).2.1, rfl⟩
    holds := fun o => absurd o (by simp [ho])
    held := nofun
    converting := nofun }

/-- A dropped record ends the run of an ACTIVE list, which may by then stand beyond its last step
(01 R12). -/
theorem endOnDrop_standing {d : ListDef} (h : s.Standing marks out) (hs : (s.list k).state = .active)
    (hd : (s.list k).defn = some d) : (endOnDrop true d k s).Standing marks out := by
  have hk := h k id
  have owns : s.ca.ownedByList k = true → (s.list k).inFlight = true := fun o => (hk.holds o).1
  unfold endOnDrop
  dsimp only
  split
  · refine endRun_standing ((h.but k).updList _) ?_ ?_ ?_ nofun <;> rw [State.list_updList_self]
    · exact { hk.toDefined with }
    · simp [hs]
    · exact owns
  · refine endRun_standing (countPass_standingBut d ((h.but k).updList _)) ?_ ?_ ?_ nofun <;>
      rw [list_countPass_self, State.list_updList_self]
    · exact { hk.toDefined.counted hd fun hp => hk.unfinished d hd hp (.inl hs) with }
    · simp [hs]
    · rw [ca_countPass]; exact owns

/-- A record reaches its list, or is disregarded (01 R12). -/
theorem recordToList_standing {dropped : Bool} (h : s.Standing marks out)
    (ho : s.ca.ownedByList k = false) : (recordToList k dropped s).Standing marks (butList out k) := by
  have hk := h k id
  unfold recordToList
  split
  · next inFlight =>
    have active : (s.list k).state = .active := by
      by_contra ne; exact absurd (hk.still ne).2.2 (by simp [inFlight])
    have took := clearInFlight_standing (f := fun l => { l with inFlight := false }) h ho ⟨_, rfl⟩
    dsimp only
    split
    · exact took
    · next d hd =>
      split
      · refine endOnDrop_standing took ?_ ?_ <;> rw [State.list_updList_self]
        · exact active
        · exact hd
      · refine (finishStep_standing (closing := true) took ?_ ?_ nofun).mono fun _ m => m.1 <;> rw [State.list_updList_self]
        exact active
  · next idle =>
    exact (h.but k).unsend.all { hk with
      holds := fun o => absurd o (by simp [ho])
      held := fun f => absurd f idle }

theorem storeRecord_se (x : Record) (toFifo : Bool) (s : State) : (storeRecord x toFifo s).1.se = s.se := by
  unfold storeRecord offer; dsimp only; split
  · split <;> simp
  · rfl

theorem storeRecord_ca (x : Record) (toFifo : Bool) (s : State) : (storeRecord x toFifo s).1.ca = s.ca := by
  unfold storeRecord offer; dsimp only; split
  · split <;> simp
  · rfl

theorem watchOutput_se (w : Fin 12) (a : Option WatchAction) (s : State) : (watchOutput w a s).se = s.se := by
  unfold watchOutput; split
  · split <;> rfl
  · rfl

theorem watchOutput_ca (w : Fin 12) (a : Option WatchAction) (s : State) : (watchOutput w a s).ca = s.ca := by
  unfold watchOutput; split
  · split <;> rfl
  · rfl

/-- What a watch does to the lists is deliver a trigger, at most, in an event that makes its own grant
(05 R86). -/
theorem evaluate_standing {r : Record} {w : Fin 12} (h : s.Standing marks out) :
    (evaluate r s w).Standing marks out := by
  unfold evaluate
  split
  · exact h
  · split
    · exact h
    · split
      · exact h.of_eq rfl rfl
      · dsimp only
        split
        · unfold zoneChanged
          split
          · exact h.of_eq rfl rfl
          · dsimp only
            exact deliver_standing (h.of_eq (by simp [watchOutput_se]) (by simp [watchOutput_ca])) nofun
        · exact h.of_eq rfl rfl

/-- A conversion completes (02 R39). -/
theorem complete_standing {c : Context} (h : s.Standing marks noList) :
    (complete c s).Standing marks noList := by
  have closed := abandon_standing h
  unfold complete
  split
  · next noGrant =>
    exact closed.congr fun k => ⟨fun o => absurd o (by rw [ownedByList_none noGrant]; decide), False.elim⟩
  · next g hg =>
    dsimp only
    refine makeGrant_standing ?_ fun _ => id
    generalize s.abandon.rs.number (composeRecord c g.owner.source) = x
    have stored : (storeRecord x (ownerToFifo s g.owner) s.abandon).1.Standing marks
        fun k => s.ca.ownedByList k = true :=
      closed.of_eq (storeRecord_se ..) (by rw [storeRecord_ca])
    have evaluated := foldl_keeps (f := evaluate x) (fun _ _ => evaluate_standing) allWatches _ stored
    rw [show List.foldl (evaluate x) _ allWatches = evaluateAll x _ from rfl] at evaluated
    generalize evaluateAll x _ = e at evaluated ⊢
    have owner : ∀ k, s.ca.ownedByList k = true ↔ ∃ i, g.owner = .list k i := by
      intro k; simp [ownedByList_iff, hg]
    unfold recordToOwner
    split
    · next j i ho =>
      have sent : s.ca.ownedByList j = true := (owner j).mpr ⟨i, ho⟩
      have unowned : e.ca.ownedByList j = false :=
        Bool.eq_false_iff.mpr fun o => ((evaluated j id).holds o).2 sent
      refine (recordToList_standing evaluated unowned).congr fun k => ?_
      simp only [butList, owner, ho, noList, iff_false, not_and, not_not]
      rintro ⟨i', e'⟩
      cases e'; rfl
    · next n b notify ho =>
      refine (evaluated.congr fun k => ?_).raiseIf _ _
      simp [owner, ho, noList]

/-- A list that can be preempted owns the conversion in flight. -/
theorem preemptible_owned (h : preemptible s = some k) : s.ca.ownedByList k = true := by
  unfold preemptible at h
  split at h
  · next j i c o st hg =>
    split at h
    · cases h; exact (ownedByList_iff ..).mpr ⟨_, i, hg, rfl⟩
    · cases h
  · cases h

/-- A preemptible list's conversion gives way to a ticket (01 R13, 02 R41). -/
theorem afterPlacing_standing (h : s.Standing marks noList) : (afterPlacing s).Standing marks noList := by
  unfold afterPlacing
  split
  · next k hp =>
    have owned := preemptible_owned hp
    refine makeGrant_standing ?_ fun _ => id
    refine (clearInFlight_standing (k := k) (abandon_standing h) (ownedByList_none rfl k) ⟨_, rfl⟩).congr
      fun j => ⟨fun o => o.2 (ownedByList_unique o.1 owned), False.elim⟩
  · exact makeGrant_standing h fun _ => id

/-! ### Edges -/

/-- The lists that await an input may be marked as its edge is accepted (01 R15). -/
theorem markWaiting_standing (input : Fin 4) (h : s.Standing noList out) :
    (markWaiting input s).Standing (fun _ => True) out := by
  refine foldl_keeps (P := State.Standing (fun _ => True) out) (fun t k ht => ?_) _ _ (h.mono fun _ => nofun)
  split
  · next awaits =>
    have hk := ht k id
    unfold awaitsInput at awaits
    simp only [Bool.and_eq_true, beq_iff_eq] at awaits
    obtain ⟨active, atAwait⟩ := awaits
    split at atAwait
    · next i n hstep => exact ht.updList { hk with mark := fun _ => ⟨trivial, active, i, n, hstep⟩ }
    · cases atAwait
  · exact ht

/-- A list that bears the mark has no conversion in flight: it stands at its AWAIT step. -/
theorem ListRecord.Stands.idle_of_mark {steps : Vector StepRecord 128} {owned : Bool} {o m : Prop}
    {l : ListRecord} (h : l.Stands steps owned o m) (hm : l.edgeWaiting = true) : l.inFlight = false := by
  obtain ⟨-, -, i, n, atAwait⟩ := h.mark hm
  refine Bool.eq_false_iff.mpr fun f => ?_
  obtain ⟨c, g, atConvert⟩ := h.converting f
  rw [atAwait] at atConvert
  cases atConvert

/-- The marked lists finish their step one after another; none is marked after its turn (01 R15, R24). -/
theorem foldl_finishWaiting_standing : ∀ (l : List (Fin 8)) (s : State), s.Standing (· ∈ l) noList →
    (l.foldl (fun s k => if (s.list k).edgeWaiting then finishStep false k s else s) s).Standing
      noList noList
  | [], _, h => h.mono fun _ m => nomatch m
  | k :: l, s, h => by
    rw [List.foldl_cons]
    refine foldl_finishWaiting_standing l _ ?_
    have hk := h k id
    split
    · next marked =>
      refine (finishStep_standing h (hk.mark marked).2.1 (hk.idle_of_mark marked) fun _ _ => id).mono ?_
      exact fun j m => (List.mem_cons.mp m.1).resolve_left m.2
    · next clear =>
      exact ((h.but k).unmark.all { hk with mark := fun e => absurd e clear }).mono
        fun j m => (List.mem_cons.mp m.1).resolve_left m.2

theorem acceptEdge_standing {k : Fin 4} {d : Direction} {stamp : Stamp} (h : s.Standing noList noList) :
    (acceptEdge k d stamp s).Standing noList noList := by
  have logged : (logEntry (.edge k d stamp) s).Standing noList noList := by
    refine h.of_eq ?_ ?_ <;> unfold logEntry <;> split <;> simp
  have triggered : (deliver false (.capture k) (markWaiting k (logEntry (.edge k d stamp) s))).Standing
      (fun _ => True) noList := deliver_standing (markWaiting_standing k logged) fun _ _ => id
  exact (foldl_finishWaiting_standing _ _ (triggered.mono fun j _ => mem_allLists j)).raiseIf _ _

/-! ### The node leaving RUN -/

/-- An ARMED list becomes READY (01 R26). -/
theorem disarm_standing {reason : EndReason} (h : s.Standing marks out) (hs : (s.list k).state = .armed) :
    (disarm k reason s).Standing marks out := by
  have hk := h k id
  have still := hk.still (by simp [hs])
  unfold disarm
  refine State.Standing.raiseIf (h.updList ?_) _ _
  exact { hk with
    defined := ⟨fun e => absurd (hk.defined.mp e) (by simp [hs]), nofun⟩
    still := fun _ => still
    unfinished := fun _ _ _ e => e.elim nofun nofun
    mark := fun m => absurd (hk.mark m).2.1 (by simp [hs]) }

/-- A list that stands and has a definition can have its run ended. -/
theorem endRun_standing_of {closing : Bool} {reason : EndReason} (h : s.Standing marks out)
    (hs : (s.list k).state ≠ .undefined) (hc : closing = false → ∀ k, ¬ out k) :
    (endRun closing k reason s).Standing marks out :=
  endRun_standing (h.but k) (h k id).toDefined hs (fun o => ((h k id).holds o).1) hc

theorem endForNode_standing {reason : EndReason} (h : s.Standing marks out) :
    (endForNode reason k s).Standing marks out := by
  unfold endForNode
  split
  · next e => exact endRun_standing_of h (by simp [e]) nofun
  · next e => exact endRun_standing_of h (by simp [e]) nofun
  · next e => exact disarm_standing h e
  · exact h
  · exact h

theorem endAllLists_standing {reason : EndReason} (h : s.Standing marks noList) :
    (endAllLists reason s).Standing marks noList :=
  makeGrant_standing (foldl_keeps (P := State.Standing marks noList)
    (fun _ _ ht => endForNode_standing ht) _ _ h) fun _ => id

/-! ### Requests and resets -/

/-- A list as a reset or a new definition leaves it (01 R6 to R8). -/
theorem fresh_stands {steps : Vector StepRecord 128} {o m : Prop} {d : Option ListDef}
    (h : ∀ x, d = some x → 1 ≤ x.stepCount ∧ x.firstStep + x.stepCount ≤ 128) :
    (ListRecord.fresh d).Stands steps false o m where
  defined := by cases d <;> simp [ListRecord.fresh]
  covered := h
  passes _ _ _ := Nat.zero_le _
  index x hx := (h x hx).1
  still _ := ⟨rfl, rfl, rfl⟩
  unfinished _ _ _ e := by cases d <;> simp [ListRecord.fresh] at e
  mark := nofun
  holds := nofun
  held := nofun
  converting := nofun
  expiring := nofun

/-- A list that runs is not replaced; any other is, and stands (01 R7, R8). -/
theorem replaced_standing {d : Option ListDef} (h : s.Standing marks noList)
    (hs : (s.list k).state.running = false)
    (hd : ∀ x, d = some x → 1 ≤ x.stepCount ∧ x.firstStep + x.stepCount ≤ 128) :
    (s.updList k fun _ => .fresh d).Standing marks noList := by
  have hk := h k id
  refine h.updList ?_
  rw [hk.not_owned (hk.still fun e => by rw [e] at hs; cases hs).2.2]
  exact fresh_stands hd

/-- A definition that is accepted has one step at least, within the step memory (01 R5, R7). -/
theorem parseListDef_covered {b : List Byte} {k : Fin 8} {d : ListDef} (h : parseListDef b k = .ok d) :
    1 ≤ d.stepCount ∧ d.firstStep + d.stepCount ≤ 128 := by
  unfold parseListDef at h
  dsimp only at h
  split at h
  · cases h
  · split at h
    · cases h
    · next range =>
      simp only [Bool.or_eq_true, beq_iff_eq, decide_eq_true_eq, not_or, not_lt] at range
      split at h
      · cases h
      · cases h
      · split at h
        · cases h
        · split at h
          · cases h
          · split at h
            · cases h
            · split at h
              · cases h
              · cases h
                exact ⟨Nat.pos_of_ne_zero range.1.1, range.2⟩

end

end Sys2Proof.Machine
end

section
/-! The owners of the requests, as far as they reach the lists, the grant record, the schedule and the node
controller; and that every step keeps how the lists stand and the node quiet outside RUN. -/

namespace Sys2Proof.Machine

/-! ### The step memory -/

/-- Reading reads as many records as it is asked for (01 R3). -/
theorem parseSteps_length {b : List Byte} : ∀ {n o : Nat} {rs : List StepRecord},
    parseSteps b o n = .ok rs → rs.length = n
  | 0, o, rs, h => by cases h; rfl
  | n + 1, o, rs, h => by
    unfold parseSteps at h
    split at h
    · cases h
    · cases hr : parseSteps b (o + 4) n with
      | error d => rw [hr] at h; cases h
      | ok rest => rw [hr] at h; cases h; simp [parseSteps_length hr]

/-- Writing writes exactly the records given (01 R3). -/
theorem writeSteps_get {i : Nat} (hi : i < 128) : ∀ (rs : List StepRecord) (v : Vector StepRecord 128) (n : Nat),
    (writeSteps v n rs)[i] = if n ≤ i ∧ i < n + rs.length then rs.getD (i - n) v[i] else v[i]
  | [], v, n => by rw [if_neg (by simp)]; rfl
  | r :: rest, v, n => by
    have written := writeSteps_get hi rest (v.setIfInBounds n r) (n + 1)
    rw [Vector.getElem_setIfInBounds hi] at written
    unfold writeSteps
    rw [written, List.length_cons]
    rcases Nat.lt_trichotomy i n with before | here | beyond
    · rw [if_neg (by omega), if_neg (by omega), if_neg (by omega)]
    · subst here; simp
    · obtain ⟨j, rfl⟩ : ∃ j, i = n + 1 + j := ⟨i - (n + 1), by omega⟩
      rw [if_neg (show ¬ n = n + 1 + j by omega), show n + 1 + j - n = j + 1 by omega,
        show n + 1 + j - (n + 1) = j by omega, List.getD_cons_succ]
      by_cases within : j < rest.length
      · rw [if_pos (by omega), if_pos (by omega)]
      · rw [if_neg (by omega), if_neg (by omega)]

/-- No list that runs covers a step outside the records in use (01 R3). -/
theorem stepsInUse_iff (e : ScanEngine) (first count : Nat) : stepsInUse e first count = true ↔
    ∃ k : Fin 8, ∃ d, e.lists[k].defn = some d ∧ e.lists[k].state.running = true ∧
      d.firstStep < first + count ∧ first < d.firstStep + d.stepCount := by
  unfold stepsInUse
  rw [List.any_eq_true]
  constructor
  · rintro ⟨k, -, h⟩
    split at h
    · cases h
    · next d hd =>
      simp only [Bool.and_eq_true, decide_eq_true_eq] at h
      exact ⟨k, d, hd, h.1.1, h.1.2, h.2⟩
  · rintro ⟨k, d, hd, h⟩
    exact ⟨k, mem_allLists k, by rw [hd]; simpa [and_assoc] using h⟩

/-- Where no running list covers the steps written, a running list stands at the step it stood at
(01 R3, R9). -/
theorem stepIn_writeSteps {s : State} {k : Fin 8} {first : Nat} {rs : List StepRecord}
    (free : stepsInUse s.se first rs.length = false) (hl : (s.list k).state.running = true)
    (hi : ∀ d, (s.list k).defn = some d → (s.list k).stepIndex < d.stepCount) :
    (s.list k).stepIn (writeSteps s.se.steps first rs) = (s.list k).stepIn s.se.steps := by
  unfold ListRecord.stepIn
  split
  · rfl
  · next d hd =>
    have index := hi d hd
    have clear : ¬ (d.firstStep < first + rs.length ∧ first < d.firstStep + d.stepCount) := fun both =>
      Bool.eq_false_iff.mp free ((stepsInUse_iff ..).mpr ⟨k, d, hd, hl, both⟩)
    apply Option.ext
    intro x
    rw [List.getElem?_eq_some_iff, List.getElem?_eq_some_iff]
    simp only [Vector.getElem_toList, Vector.length_toList]
    have same : ∀ h : d.firstStep + (s.list k).stepIndex < 128,
        (writeSteps s.se.steps first rs)[d.firstStep + (s.list k).stepIndex] =
          s.se.steps[d.firstStep + (s.list k).stepIndex] := fun h => by
      rw [writeSteps_get h, if_neg (by omega)]
    exact ⟨fun ⟨h, e⟩ => ⟨h, by rw [← same h]; exact e⟩, fun ⟨h, e⟩ => ⟨h, by rw [same h]; exact e⟩⟩

section
variable {marks out : Fin 8 → Prop} {s t : State}

theorem writeSteps_standing {first : Nat} {rs : List StepRecord} (h : s.Standing marks out)
    (free : stepsInUse s.se first rs.length = false) :
    State.Standing marks out { s with se := { s.se with steps := writeSteps s.se.steps first rs } } := by
  intro k _
  have hk := h k id
  have same : (s.list k).state = .active →
      (s.list k).stepIn (writeSteps s.se.steps first rs) = (s.list k).stepIn s.se.steps :=
    fun e => stepIn_writeSteps free (by rw [e]; rfl) hk.index
  have stands : (s.list k).Stands (writeSteps s.se.steps first rs) (s.ca.ownedByList k) (out k) (marks k) := by
    by_cases active : (s.list k).state = .active
    · exact { hk with
        mark := fun m => by rw [same active]; exact hk.mark m
        converting := fun f => by rw [same active]; exact hk.converting f
        expiring := fun e => by rw [same active]; exact hk.expiring e }
    · obtain ⟨-, noExpiry, idle⟩ := hk.still active
      exact { hk with
        mark := fun m => absurd (hk.mark m).2.1 active
        converting := fun f => absurd f (by simp [idle])
        expiring := fun e => absurd e (by simp [noExpiry]) }
  exact stands

/-! ### What the owners reach -/

/-- The kinds of request whose owner reaches the lists, the arbiter, the schedule or the node controller. -/
def reachesLists : Kind → Bool
  | .go | .halt | .restart | .setSilence | .convert | .cancelConvert | .writeSteps | .defineList | .startList
  | .stopList | .clearList | .schedule | .cancelAction => true
  | _ => false

/-- The Scan Engine, the arbiter, the schedule and the node controller are the same. -/
structure State.SameCore (s t : State) : Prop where
  se : t.se = s.se
  ca : t.ca = s.ca
  su : t.su = s.su
  nc : t.nc = s.nc

theorem State.SameCore.refl (s : State) : s.SameCore s := ⟨rfl, rfl, rfl, rfl⟩

theorem State.SameCore.trans {u : State} (h : s.SameCore t) (g : t.SameCore u) : s.SameCore u :=
  ⟨g.se.trans h.se, g.ca.trans h.ca, g.su.trans h.su, g.nc.trans h.nc⟩

theorem foldl_sameCore {α : Type} {f : State → α → State} (hf : ∀ (s : State) a, s.SameCore (f s a)) (l : List α)
    (s : State) : s.SameCore (l.foldl f s) :=
  foldl_keeps (P := s.SameCore) (fun t a h => h.trans (hf t a)) l s (.refl s)

theorem logEntry_sameCore (e : LogEntry) (s : State) : s.SameCore (logEntry e s) := by
  unfold logEntry; split <;> constructor <;> simp

/-- Every other request leaves them as they are. -/
theorem owner_sameCore {k : Kind} {b body : List Byte} (hk : reachesLists k = false)
    (h : owner k b s = .accept body t) : s.SameCore t := by
  cases k with
  | identify | echo | status | readStamp | outputStatus | fifoStatus => cases h; exact .refl s
  | mark => cases h; exact logEntry_sameCore ..
  | readLatest | clearFifo => cases h; exact ⟨rfl, rfl, rfl, rfl⟩
  | setChannel =>
    simp only [owner, ownSetChannel] at h
    split at h <;> cases h
    exact ⟨rfl, rfl, rfl, rfl⟩
  | readSteps =>
    simp only [owner, ownReadSteps] at h
    split at h <;> cases h
    exact .refl s
  | listStatus =>
    simp only [owner, ownListStatus] at h
    split at h <;> cases h
    exact .refl s
  | readFifo =>
    simp only [owner, ownReadFifo] at h
    split at h <;> cases h
    exact ⟨rfl, rfl, rfl, rfl⟩
  | setFifoLevel =>
    simp only [owner, ownSetFifoLevel] at h
    split at h <;> cases h
    exact ⟨rfl, rfl, rfl, rfl⟩
  | setWatch =>
    simp only [owner, ownSetWatch] at h
    split at h
    · cases h
    · split at h <;> cases h
      exact ⟨rfl, rfl, rfl, rfl⟩
  | clearWatch =>
    simp only [owner, ownClearWatch] at h
    split at h <;> cases h
    exact ⟨rfl, rfl, rfl, rfl⟩
  | watchStatus =>
    simp only [owner, ownWatchStatus] at h
    split at h <;> cases h
    exact .refl s
  | setCapture =>
    simp only [owner, ownSetCapture] at h
    split at h <;> cases h
    exact foldl_sameCore (fun t k => by split <;> exact ⟨rfl, rfl, rfl, rfl⟩) _ _
  | readCaptures =>
    simp only [owner, ownReadCaptures] at h
    split at h <;> cases h
    exact ⟨rfl, rfl, rfl, rfl⟩
  | scheduleStatus =>
    simp only [owner, ownScheduleStatus] at h
    split at h <;> cases h
    exact .refl s
  | setOutput =>
    simp only [owner, ownSetOutput] at h
    split at h
    · cases h
    · split at h <;> cases h
      exact foldl_sameCore (fun t k => by split <;> exact ⟨rfl, rfl, rfl, rfl⟩) _ _
  | setSafeLevels =>
    simp only [owner, ownSetSafeLevels] at h
    split at h <;> cases h
    refine foldl_sameCore (fun t k => ?_) _ _
    split
    · split <;> exact ⟨rfl, rfl, rfl, rfl⟩
    · exact .refl t
  | poll =>
    simp only [owner, ownPoll] at h
    split at h <;> cases h
    exact ⟨rfl, rfl, rfl, rfl⟩
  | _ => cases hk

end

end Sys2Proof.Machine
end

section
/-! Every block's part of a step keeps how the lists stand. -/

namespace Sys2Proof.Machine

section
variable {s t : State}

/-! ### The owners -/

theorem startReply_standing {k : Fin 8} {n : Nat} {body : List Byte} {u : State} (h : u.Standing noList noList)
    (e : startReply k n u = .accept body t) : t.Standing noList noList := by cases e; exact h

theorem ownStartList_standing {b body : List Byte} (h : s.Standing noList noList)
    (e : ownStartList b s = .accept body t) : t.Standing noList noList := by
  unfold ownStartList at e
  split at e
  · cases e
  · next k _ =>
    have hk := h k id
    split at e
    · cases e
    · split at e
      · cases e
      · cases e
      · next ready hd =>
        have still := hk.still (by simp [ready])
        split at e
        · refine startReply_standing ?_ e
          exact startRun_standing (h.but k) hk.toDefined (by simp [ready]) (hk.not_owned still.2.2) fun _ _ => id
        · refine startReply_standing (h.updList ?_) e
          exact { hk with
            defined := ⟨fun e => absurd (hk.defined.mp e) (by simp [ready]), nofun⟩
            passes := fun _ _ _ => Nat.zero_le _
            still := fun _ => still
            unfinished := fun _ _ _ e => e.elim nofun nofun
            mark := fun m => absurd (hk.mark m).2.1 (by simp [ready]) }
      · exact startReply_standing h e
      · next active hd =>
        split at e
        · exact startReply_standing (retrigger_standing h (by simp [active]) fun _ _ => id) e
        · cases e
      · next resting hd =>
        split at e
        · exact startReply_standing (retrigger_standing h (by simp [resting]) fun _ _ => id) e
        · cases e

theorem stopNow_standing {k : Fin 8} {body : List Byte} (h : s.Standing noList noList)
    (e : stopNow k s = .accept body t) : t.Standing noList noList := by
  unfold stopNow stopReply at e
  split at e <;> cases e
  · next active => exact makeGrant_standing (endRun_standing_of h (by simp [active]) nofun) fun _ => id
  · next resting => exact makeGrant_standing (endRun_standing_of h (by simp [resting]) nofun) fun _ => id
  · next armed => exact disarm_standing h armed
  · exact h
  · exact h

theorem ownStopList_standing {b body : List Byte} (h : s.Standing noList noList)
    (e : ownStopList b s = .accept body t) : t.Standing noList noList := by
  unfold ownStopList at e
  split at e
  · cases e
  · exact stopNow_standing h e
  · next k _ _ =>
    unfold stopFinish at e
    split at e
    · cases e; exact h.updList { h k id with }
    all_goals exact stopNow_standing h e
  · cases e

/-- A ticket in flight is no list's. -/
theorem unowned_of_inFlightTicket {a : Arbiter} {n : Nat} (h : a.inFlightTicket = some n) (k : Fin 8) :
    a.ownedByList k = false := by
  unfold Arbiter.inFlightTicket at h
  split at h
  · next hg => simp [Arbiter.ownedByList, hg]
  · cases h

theorem restartTimer_core (s : State) : (restartTimer s).se = s.se ∧ (restartTimer s).ca = s.ca := by
  unfold restartTimer; split <;> exact ⟨rfl, rfl⟩

theorem departRun_standing {target : NodeState} {reason : EndReason} (h : s.Standing noList noList) :
    (departRun target reason s).Standing noList noList := by
  have ended : (endAllLists reason { s with nc := { s.nc with state := target, timer := none } }).Standing
      noList noList := endAllLists_standing (h.of_eq rfl rfl)
  unfold departRun
  dsimp only
  generalize endAllLists reason _ = t at ended ⊢
  exact ended.of_eq rfl rfl

/-- What an owner accepts leaves the lists standing. -/
theorem owner_standing {k : Kind} {b body : List Byte} (h : s.Standing noList noList)
    (e : owner k b s = .accept body t) : t.Standing noList noList := by
  cases hk : reachesLists k with
  | false =>
    have core := owner_sameCore hk e
    exact h.of_eq core.se (by rw [core.ca])
  | true =>
    cases k with
    | go =>
      simp only [owner, ownGo] at e
      split at e <;> cases e
      · exact h
      · have core := restartTimer_core { s with nc := { s.nc with state := .run } }
        exact h.of_eq core.1 (by rw [core.2])
    | halt =>
      simp only [owner, ownHalt] at e
      split at e <;> cases e
      · exact departRun_standing h
      · exact h.of_eq rfl rfl
      · exact h
    | restart => cases e; exact h.of_eq rfl rfl
    | setSilence =>
      simp only [owner, ownSetSilence] at e
      split at e
      · cases e
      · cases e
        split
        · exact h.of_eq rfl rfl
        · have core := restartTimer_core { s with nc := { s.nc with silence := wordAt b 0 } }
          exact h.of_eq core.1 (by rw [core.2])
    | convert =>
      simp only [owner, ownConvert] at e
      split at e
      · cases e
      · split at e
        · cases e
        · split at e <;> cases e
          exact afterPlacing_standing (h.of_eq rfl rfl)
    | cancelConvert =>
      simp only [owner, ownCancelConvert] at e
      split at e
      · cases e
      · split at e
        · cases e; exact h.of_eq rfl rfl
        · split at e
          · next ticket =>
            cases e
            exact makeGrant_standing
              (abandon_standing_of_unowned h (unowned_of_inFlightTicket (eq_of_beq ticket))) fun _ => id
          · cases e; exact h
    | writeSteps =>
      simp only [owner, ownWriteSteps] at e
      split at e
      · cases e
      · split at e
        · cases e
        · next rs read =>
          split at e <;> cases e
          next free =>
          rw [← parseSteps_length read] at free
          exact writeSteps_standing h (by simpa using free)
    | defineList =>
      simp only [owner, ownDefineList] at e
      split at e
      · cases e
      · split at e
        · cases e
        · next d read =>
          split at e <;> cases e
          next ready => exact replaced_standing h (by simpa using ready) fun x hx =>
            Option.some.inj hx ▸ parseListDef_covered read
    | startList => exact ownStartList_standing h e
    | stopList => exact ownStopList_standing h e
    | clearList =>
      simp only [owner, ownClearList] at e
      split at e
      · cases e
      · split at e <;> cases e
        next ready => exact replaced_standing h (by simpa using ready) nofun
    | schedule =>
      simp only [owner, ownSchedule] at e
      split at e
      · cases e
      · split at e
        · cases e
        · split at e
          · cases e
          · split at e <;> cases e
            exact h.of_eq rfl rfl
    | cancelAction =>
      simp only [owner, ownCancelAction] at e
      split at e
      · cases e
      · split at e <;> cases e
        exact h.of_eq rfl rfl
    | _ => cases hk

/-! ### The resets -/

/-- After a reset the lists are fresh, and nothing is granted. -/
theorem fresh_standing {d : Fin 8 → Option ListDef} (hl : ∀ k, s.list k = .fresh (d k)) (hg : s.ca.grant = none)
    (hd : ∀ k x, d k = some x → 1 ≤ x.stepCount ∧ x.firstStep + x.stepCount ≤ 128) :
    s.Standing noList noList := fun k _ => by
  rw [hl, ownedByList_none hg]
  exact fresh_stands (hd k)

theorem list_softReset (s : State) (k : Fin 8) : (softReset s).list k = .fresh (s.list k).defn := by
  simp [softReset, raiseStarted, State.list]

theorem softReset_standing (h : s.Standing noList noList) : (softReset s).Standing noList noList :=
  fresh_standing (list_softReset s) rfl fun k => (h k id).covered

theorem list_hardReset (cause : ResetCause) (s : State) (k : Fin 8) :
    (hardReset cause s).list k = .fresh none := by
  simp [hardReset, ScanEngine.reset, State.list]

theorem hardReset_standing (cause : ResetCause) (s : State) : (hardReset cause s).Standing noList noList :=
  fresh_standing (list_hardReset cause s) rfl nofun

theorem endHardReset_standing (straps : Straps) (s : State) :
    (endHardReset straps s).Standing noList noList :=
  (hardReset_standing s.nc.cause s).of_eq rfl rfl

/-! ### Every block -/

theorem safeWrite_core (s : State) : s.SameCore (safeWrite s) :=
  foldl_sameCore (f := fun s k => s.writeLine k (s.line k).safe .safe) (fun _ _ => ⟨rfl, rfl, rfl, rfl⟩) _ _

/-- A list whose expiry stamp is reached and that stands at a WAIT or an AWAIT step has no conversion in
flight. -/
theorem ListRecord.Stands.idle_of_step {steps : Vector StepRecord 128} {owned : Bool} {o m : Prop}
    {l : ListRecord} {x : StepRecord} (h : l.Stands steps owned o m) (hx : l.stepIn steps = some x)
    (hc : ∀ c g, x ≠ .convert c g) : l.inFlight = false :=
  Bool.eq_false_iff.mpr fun f => by
    obtain ⟨c, g, e⟩ := h.converting f
    rw [hx] at e
    exact hc c g (Option.some.inj e)

theorem waitExpiry_standing {k : Fin 8} (h : s.Standing noList noList) :
    (waitExpiry k s).Standing noList noList := by
  unfold waitExpiry
  split
  · next n active atWait =>
    have idle := (h k id).idle_of_step atWait nofun
    refine State.whenDue_keeps h fun d => ?_
    have advanced : (s.advance d).Standing noList noList := h.of_eq rfl rfl
    exact (finishStep_standing advanced active idle fun _ _ => id).mono fun _ m => m.1
  · exact h

theorem awaitTimeout_standing {k : Fin 8} (h : s.Standing noList noList) :
    (awaitTimeout k s).Standing noList noList := by
  unfold awaitTimeout
  split
  · next active _ =>
    refine State.whenDue_keeps h fun d => endRun_standing_of ?_ ?_ fun _ _ => id
    · exact h.of_eq rfl rfl
    · rw [State.list_advance, active]; nofun
  · exact h

theorem leaveRest_standing {k : Fin 8} (h : s.Standing noList noList) (hs : (s.list k).state = .resting) :
    (leaveRest k s).Standing noList noList := by
  have hk := h k id
  have still := hk.still (by simp [hs])
  unfold leaveRest
  refine beginStep_standing ((h.but k).updList _) ?_ fun _ _ => id
  rw [State.list_updList_self]
  exact
    { defined := ⟨fun e => absurd (hk.defined.mp e) (by simp [hs]), nofun⟩
      covered := hk.covered
      passes := hk.passes
      active := rfl
      index := fun d hd => (hk.covered d hd).1
      unfinished := fun d hd hp => hk.unfinished d hd hp (.inr hs)
      idle := still.2.2
      unowned := hk.not_owned still.2.2 }

theorem restReached_standing {k : Fin 8} (h : s.Standing noList noList) :
    (restReached k s).Standing noList noList := by
  unfold restReached
  split
  · next resting => exact State.whenDue_keeps h fun d => leaveRest_standing (h.of_eq rfl rfl) resting
  · exact h

theorem pinChanged_standing {k : Fin 4} {v : Level} (h : s.Standing noList noList) :
    (pinChanged k v s).Standing noList noList := by
  have same : ∀ f, (s.updInput k f).Standing noList noList := fun f => h.of_eq rfl rfl
  unfold pinChanged
  dsimp only
  split
  · split
    · exact same _
    · exact h
  · split
    · exact h
    · split
      · exact same _
      · split
        · exact acceptEdge_standing (same _)
        · exact same _

theorem fireFront_standing (h : s.Standing noList noList) : (fireFront s).Standing noList noList := by
  unfold fireFront
  split
  · exact h
  · next e rest _ =>
    have effect : (actionEffect e s).Standing noList noList := by
      unfold actionEffect
      split
      · exact h.of_eq rfl rfl
      · exact takeTrigger_standing h fun _ _ => id
    exact State.Standing.of_eq (effect.raiseIf e.notify (.actionFired e.handle e.action e.repeatsAfter)) rfl rfl

theorem enterSafe_standing (h : s.Standing noList noList) : (enterSafe s).Standing noList noList := by
  have left := departRun_standing (target := .safe) (reason := .nodeSafe) h
  have core := safeWrite_core (departRun .safe .nodeSafe s)
  unfold enterSafe
  generalize departRun .safe .nodeSafe s = t at left core ⊢
  exact left.of_eq core.se (congrArg Arbiter.grant core.ca)

/-- Every block's part of a step keeps how the lists stand. -/
theorem standing_kept : KeptByBlocks (State.Standing noList noList) where
  queue _ _ h := h.of_eq rfl rfl
  free _ h := h.of_eq rfl rfl
  line _ _ h := h.of_eq rfl rfl
  hand _ _ h := h.of_eq rfl rfl
  timer s h := h.of_eq (restartTimer_core s).1 (by rw [(restartTimer_core s).2])
  owner _ _ _ _ _ h e := owner_standing h e
  tick s h := by
    unfold tick; split
    · exact h
    · exact h.of_eq rfl rfl
  por straps s _ := by
    unfold por; split
    · exact hardReset_standing .power s
    · exact endHardReset_standing straps _
  pinReset s h := by
    unfold pinReset; split
    · exact h
    · exact (hardReset_standing .pin s).of_eq rfl rfl
  pinRelease straps s h := by
    unfold pinRelease; split
    · exact endHardReset_standing straps s
    · exact h
  softReset _ h := softReset_standing h
  calibrationEnd s h := by
    unfold calibrationEnd; split
    · exact State.whenDue_keeps h fun _ => makeGrant_standing (h.of_eq rfl rfl) fun _ => id
    · exact h
  checkEnd _ _ s h := by
    unfold checkEnd; split
    · exact State.whenDue_keeps h fun _ => h.of_eq rfl rfl
    · exact h
  settleEnd s h := by
    unfold settleEnd; split
    · exact State.whenDue_keeps h fun _ => h.of_eq rfl rfl
    · exact h
  sampleEnd level s h := by
    unfold sampleEnd; split
    · refine State.whenDue_keeps h fun _ => ?_
      unfold endSample
      dsimp only
      split
      · exact h.of_eq rfl rfl
      · exact complete_standing (h.of_eq rfl rfl)
    · exact h
  waitExpiry _ _ h := waitExpiry_standing h
  awaitTimeout _ _ h := awaitTimeout_standing h
  restStamp _ _ h := restReached_standing h
  capturePinChange k v s h := by
    unfold capturePinChange
    split
    · exact h
    · split
      · exact h.of_eq rfl rfl
      · exact pinChanged_standing (h.of_eq rfl rfl)
  debounceEnd k s h := by
    unfold debounceEnd
    split
    · split
      · exact State.whenDue_keeps h fun _ => acceptEdge_standing (h.of_eq rfl rfl)
      · exact h
    · exact h
  actionFiring s h := State.whenDue_keeps h fun _ => fireFront_standing (h.of_eq rfl rfl)
  silenceExpiry s h := State.whenDue_keeps h fun _ => enterSafe_standing (h.of_eq rfl rfl)

end

end Sys2Proof.Machine
end

section
/-! Every block's part of a step keeps the node quiet outside RUN (01 R29, 07 R125, 11 R175). While no list
is ARMED, ACTIVE or RESTING, no operation of the Scan Engine but GO's requests can wake one. -/

namespace Sys2Proof.Machine

/-- No list is ARMED, ACTIVE or RESTING. -/
def State.Still (s : State) : Prop := ∀ k, (s.list k).state.running = false

section
variable {s t : State} {k : Fin 8}

theorem State.Still.of_states (h : s.Still) (hl : ∀ k, (t.list k).state = (s.list k).state) : t.Still :=
  fun k => by rw [hl]; exact h k

theorem State.Still.of_se (h : s.Still) (hse : t.se = s.se) : t.Still :=
  h.of_states fun k => by unfold State.list; rw [hse]

theorem State.Still.state (h : s.Still) (k : Fin 8) :
    (s.list k).state = .undefined ∨ (s.list k).state = .ready := by
  have := h k
  cases hs : (s.list k).state <;> simp_all [ListState.running]

/-! ### What does nothing where no list runs -/

theorem makeGrant_still (h : s.Still) : (makeGrant s).Still := h.of_states fun k => (list_makeGrant s k).state

/-- A trigger does nothing to a list that is READY or UNDEFINED (01 R22). -/
theorem takeTrigger_still {closing : Bool} {src : TriggerSource} (h : s.Still) :
    takeTrigger closing src k s = s := by
  unfold takeTrigger
  split
  · rfl
  · split
    · rcases h.state k with e | e <;> rw [e]
    · rfl

theorem deliver_still {closing : Bool} {src : TriggerSource} (h : s.Still) : deliver closing src s = s :=
  foldl_keeps (P := (· = s)) (fun t k e => by rw [e]; exact takeTrigger_still h) allLists s rfl

theorem evaluate_still {r : Record} {w : Fin 12} (h : s.Still) : (evaluate r s w).se = s.se := by
  unfold evaluate
  split
  · rfl
  · split
    · rfl
    · split
      · rfl
      · dsimp only
        split
        · unfold zoneChanged
          split
          · rfl
          · dsimp only
            rw [deliver_still (h.of_se (by simp [watchOutput_se]))]
            simp [watchOutput_se]
        · rfl

theorem evaluateAll_still {r : Record} (h : s.Still) : (evaluateAll r s).Still :=
  foldl_keeps (P := State.Still) (fun _ _ ht => ht.of_se (evaluate_still ht)) _ _ h

/-- A list that does not run has no conversion in flight. -/
theorem State.Still.idle {marks out : Fin 8 → Prop} (h : s.Still) (hs : s.Standing marks out) (k : Fin 8) :
    (s.list k).inFlight = false :=
  ((hs k id).still (by rcases h.state k with e | e <;> simp [e])).2.2

theorem State.Still.unowned {marks out : Fin 8 → Prop} (h : s.Still) (hs : s.Standing marks out) (k : Fin 8) :
    s.ca.ownedByList k = false := (hs k id).not_owned (h.idle hs k)

theorem complete_still {c : Context} (h : s.Still) (hs : s.Standing noList noList) : (complete c s).Still := by
  unfold complete
  split
  · exact h
  · next g hg =>
    dsimp only
    refine makeGrant_still ?_
    generalize s.abandon.rs.number (composeRecord c g.owner.source) = x
    have stored : (storeRecord x (ownerToFifo s g.owner) s.abandon).1.Still := h.of_se (storeRecord_se ..)
    have evaluated := evaluateAll_still (r := x) stored
    unfold recordToOwner
    split
    · next j i ho =>
      have owned := (ownedByList_iff s.ca j).mpr ⟨g, i, hg, ho⟩
      rw [h.unowned hs] at owned
      cases owned
    · exact evaluated.of_se (by simp)

theorem acceptEdge_still {k : Fin 4} {d : Direction} {stamp : Stamp} (h : s.Still)
    (hs : s.Standing noList noList) : (acceptEdge k d stamp s).Still := by
  have logged : (logEntry (.edge k d stamp) s).se = s.se := (logEntry_sameCore _ s).se
  have quiet : (logEntry (.edge k d stamp) s).Still := h.of_se logged
  have unmarked : ∀ j, ((logEntry (.edge k d stamp) s).list j).edgeWaiting = false := fun j =>
    Bool.eq_false_iff.mpr fun m => by
      unfold State.list at m
      rw [logged] at m
      exact ((hs j id).mark m).1
  unfold acceptEdge
  dsimp only
  generalize logEntry (.edge k d stamp) s = t at quiet unmarked ⊢
  have noMark : markWaiting k t = t := foldl_keeps (P := (· = t)) (fun u j e => by
    rw [e, if_neg]
    unfold awaitsInput
    rcases quiet.state j with e | e <;> simp [e]) allLists t rfl
  have noFinish : finishWaiting t = t := foldl_keeps (P := (· = t)) (fun u j e => by
    rw [e, if_neg (by simp [unmarked])]) allLists t rfl
  rw [noMark, deliver_still quiet, noFinish]
  exact quiet.of_se (by simp)

/-! ### Leaving RUN -/

/-- The node ends a list's run as the node leaves RUN: the list is READY after it, and no other changes
(01 R29). -/
theorem list_disarm (k : Fin 8) (reason : EndReason) (s : State) :
    (disarm k reason s).list k = { s.list k with state := .ready, endRecord := some (reason, s.now) } := by
  unfold disarm
  dsimp only
  rw [State.list_raiseIf, State.list_updList_self]

theorem list_disarm_ne {j k : Fin 8} (reason : EndReason) (s : State) (h : j ≠ k) :
    (disarm k reason s).list j = s.list j := by
  unfold disarm
  dsimp only
  rw [State.list_raiseIf, State.list_updList_ne s k j _ h]

/-- A run that ends for another reason than COMPLETED is closed, and nothing follows (01 R21). -/
theorem endRun_eq_closeRun {closing : Bool} {reason : EndReason} (h : reason ≠ .completed) (k : Fin 8)
    (s : State) : endRun closing k reason s = closeRun k reason s := by
  unfold endRun
  dsimp only
  rw [if_neg (by simpa using h)]

/-- And it leaves the list READY (01 R20). -/
theorem state_closeRun_ready {reason : EndReason} (h : reason ≠ .completed) (k : Fin 8) (s : State) :
    ((closeRun k reason s).list k).state = .ready := by
  rw [list_closeRun_self]
  have : rearms s k reason = false := by
    unfold rearms; rw [show (reason == .completed) = false by simpa using h]; rfl
  simp [this]

theorem state_endForNode {reason : EndReason} (h : reason ≠ .completed) (k : Fin 8) (s : State) :
    ((endForNode reason k s).list k).state.running = false := by
  unfold endForNode
  split
  · rw [endRun_eq_closeRun h, state_closeRun_ready h]; rfl
  · rw [endRun_eq_closeRun h, state_closeRun_ready h]; rfl
  · rw [list_disarm]; rfl
  · next e => rw [e]; rfl
  · next e => rw [e]; rfl

theorem list_endForNode_ne {j k : Fin 8} {reason : EndReason} (h : reason ≠ .completed) (s : State)
    (hj : j ≠ k) : (endForNode reason k s).list j = s.list j := by
  unfold endForNode
  split
  · rw [endRun_eq_closeRun h, list_closeRun_ne reason s hj]
  · rw [endRun_eq_closeRun h, list_closeRun_ne reason s hj]
  · exact list_disarm_ne reason s hj
  · rfl
  · rfl

/-- What is done to the lists one after another leaves a list that is not among them as it was. -/
theorem list_foldl_ne {f : State → Fin 8 → State} (hf : ∀ s j, k ≠ j → (f s j).list k = s.list k) :
    ∀ (l : List (Fin 8)) (s : State), k ∉ l → (l.foldl f s).list k = s.list k
  | [], _, _ => rfl
  | j :: l, s, hk => by
    rw [List.mem_cons, not_or] at hk
    rw [List.foldl_cons, list_foldl_ne hf l _ hk.2, hf s j hk.1]

theorem foldl_endForNode_ne {reason : EndReason} (h : reason ≠ .completed) :
    ∀ (l : List (Fin 8)) (s : State), k ∉ l →
      (l.foldl (fun s k => endForNode reason k s) s).list k = s.list k :=
  list_foldl_ne fun s _ => list_endForNode_ne h s

/-- Every list is ended in the state in which the lists before it leave it, which is the one it was in. -/
theorem foldl_endForNode (reason : EndReason) (h : reason ≠ .completed) (k : Fin 8) (s : State) :
    ∃ u : State, u.list k = s.list k ∧ s.OnlyLists u ∧
      (allLists.foldl (fun s k => endForNode reason k s) s).list k = (endForNode reason k u).list k := by
  obtain ⟨before, after, hl, hb, ha⟩ := allLists_split k
  refine ⟨before.foldl (fun s k => endForNode reason k s) s, foldl_endForNode_ne h before s hb,
    foldl_only _ (fun _ _ => endForNode_only ..) _ s, ?_⟩
  rw [hl, List.foldl_append, List.foldl_cons, foldl_endForNode_ne h after _ ha]

theorem endAllLists_still {reason : EndReason} (h : reason ≠ .completed) (s : State) :
    (endAllLists reason s).Still := by
  refine makeGrant_still fun k => ?_
  obtain ⟨u, -, -, e⟩ := foldl_endForNode reason h k s
  rw [e]
  exact state_endForNode h k u

/-! ### The node controller and the schedule -/

/-- The node is quiet: no list runs, the schedule is empty, the timer stopped. -/
structure State.Quiet (s : State) : Prop where
  lists : s.Still
  table : s.su.table = []
  timer : s.nc.timer = none

theorem quietOutsideRun_iff (s : State) : s.QuietOutsideRun ↔ (s.nc.state ≠ .run → s.Quiet) :=
  ⟨fun h r => ⟨(h r).1, (h r).2.1, (h r).2.2⟩, fun h r => ⟨(h r).lists, (h r).table, (h r).timer⟩⟩

/-- How the lists stand, and the node quiet outside RUN. -/
structure State.Rests (s : State) : Prop where
  standing : s.Standing noList noList
  quiet : s.nc.state ≠ .run → s.Quiet

/-- An operation that leaves the node controller alone keeps the node quiet where it wakes no list and
schedules nothing. -/
theorem State.Rests.of_control (h : s.Rests) (hs : t.Standing noList noList) (hnc : t.nc = s.nc)
    (hl : s.Quiet → t.Still ∧ t.su.table = []) : t.Rests where
  standing := hs
  quiet r := by
    rw [hnc] at r
    obtain ⟨lists, table⟩ := hl (h.quiet r)
    exact ⟨lists, table, by rw [hnc]; exact (h.quiet r).timer⟩

/-- The same for one that leaves the schedule alone too. -/
theorem State.Rests.of_still (h : s.Rests) (hs : t.Standing noList noList) (hnc : t.nc = s.nc) (hsu : t.su = s.su)
    (hl : s.Still → t.Still) : t.Rests :=
  h.of_control hs hnc fun q => ⟨hl q.lists, by rw [hsu]; exact q.table⟩

theorem State.Rests.of_core (h : s.Rests) (hc : s.SameCore t) : t.Rests :=
  h.of_still (h.standing.of_eq hc.se (by rw [hc.ca])) hc.nc hc.su fun q => q.of_se hc.se

/-- An operation of the Scan Engine. -/
theorem State.Rests.of_only (h : s.Rests) (ho : s.OnlyLists t) (hs : t.Standing noList noList)
    (hl : s.Still → t.Still) : t.Rests := h.of_still hs ho.nc ho.su hl

/-- A node left outside RUN quiet rests. -/
theorem State.Rests.of_quiet (hs : t.Standing noList noList) (hq : t.Quiet) : t.Rests := ⟨hs, fun _ => hq⟩

theorem makeGrant_rests (h : s.Rests) : (makeGrant s).Rests :=
  h.of_only (makeGrant_only s) (makeGrant_standing h.standing fun _ => id) makeGrant_still

theorem restartTimer_rests (h : s.Rests) : (restartTimer s).Rests := by
  unfold restartTimer
  split
  · next run => exact ⟨h.standing.of_eq rfl rfl, fun r => absurd run.1 r⟩
  · exact h

theorem departRun_rests {target : NodeState} {reason : EndReason} (h : s.Standing noList noList)
    (hr : reason ≠ .completed) : (departRun target reason s).Rests := by
  have only := endAllLists_only reason { s with nc := { s.nc with state := target, timer := none } }
  have still := endAllLists_still hr { s with nc := { s.nc with state := target, timer := none } }
  refine .of_quiet (departRun_standing h) ?_
  unfold departRun
  dsimp only
  generalize endAllLists reason _ = t at only still ⊢
  exact ⟨still.of_se rfl, rfl, by rw [only.nc]⟩

end

end Sys2Proof.Machine
end

section
/-! Every step keeps how the lists stand and the node quiet outside RUN: the owners and the events. -/

namespace Sys2Proof.Machine

section
variable {s t : State} {k : Fin 8}

/-- An operation that keeps the node in RUN owes nothing outside RUN. -/
theorem State.Rests.of_run (hs : t.Standing noList noList) (hr : t.nc.state = .run) : t.Rests :=
  ⟨hs, fun r => absurd hr r⟩

theorem afterPlacing_still (h : s.Still) (hs : s.Standing noList noList) : (afterPlacing s).Still := by
  unfold afterPlacing
  split
  · next k hp =>
    have owned := preemptible_owned hp
    rw [h.unowned hs] at owned
    cases owned
  · exact makeGrant_still h

/-- A list replaced by a fresh one does not run. -/
theorem replaced_still (h : s.Still) (k : Fin 8) (d : Option ListDef) : (s.updList k fun _ => .fresh d).Still := by
  intro j
  rw [State.list_updList]
  split
  · cases d <;> rfl
  · exact h j

/-- START_LIST is accepted in RUN only, and changes only lists (01 R25). -/
theorem ownStartList_run {b body : List Byte} (e : ownStartList b s = .accept body t) :
    s.nc.state = .run ∧ s.OnlyLists t := by
  have replied : ∀ {k n} {u : State}, startReply k n u = .accept body t → u = t := fun e => by cases e; rfl
  unfold ownStartList at e
  split at e
  · cases e
  · split at e
    · cases e
    · next run =>
      refine ⟨by simpa using run, ?_⟩
      split at e
      · cases e
      · cases e
      · split at e
        · exact replied e ▸ startRun_only ..
        · exact replied e ▸ updList_only _ _ _ rfl
      · exact replied e ▸ .refl s
      · split at e
        · exact replied e ▸ retrigger_only ..
        · cases e
      · split at e
        · exact replied e ▸ retrigger_only ..
        · cases e

/-- STOP_LIST changes only lists, and nothing where none runs (01 R26, R27). -/
theorem stopNow_only {body : List Byte} (e : stopNow k s = .accept body t) :
    s.OnlyLists t ∧ (s.Still → t = s) := by
  unfold stopNow stopReply at e
  split at e <;> cases e
  · next active =>
    exact ⟨.trans (endRun_only ..) (makeGrant_only _), fun h => by simpa [active, ListState.running] using h k⟩
  · next resting =>
    exact ⟨.trans (endRun_only ..) (makeGrant_only _), fun h => by simpa [resting, ListState.running] using h k⟩
  · next armed => exact ⟨disarm_only .., fun h => by simpa [armed, ListState.running] using h k⟩
  · exact ⟨.refl _, fun _ => rfl⟩
  · exact ⟨.refl _, fun _ => rfl⟩

theorem ownStopList_only {b body : List Byte} (e : ownStopList b s = .accept body t) :
    s.OnlyLists t ∧ (s.Still → t = s) := by
  unfold ownStopList at e
  split at e
  · cases e
  · exact stopNow_only e
  · next k _ _ =>
    unfold stopFinish at e
    split at e
    · next active =>
      cases e
      exact ⟨updList_only _ _ _ rfl, fun h => by simpa [active, ListState.running] using h k⟩
    all_goals exact stopNow_only e
  · cases e

/-- What an owner accepts keeps the node quiet outside RUN. -/
theorem owner_rests {k : Kind} {b body : List Byte} (h : s.Rests) (e : owner k b s = .accept body t) :
    t.Rests := by
  have standing := owner_standing h.standing e
  cases hk : reachesLists k with
  | false => exact h.of_core (owner_sameCore hk e)
  | true =>
    cases k with
    | go =>
      simp only [owner, ownGo] at e
      split at e <;> cases e
      · exact h
      · exact restartTimer_rests (.of_run (h.standing.of_eq rfl rfl) rfl)
    | halt =>
      simp only [owner, ownHalt] at e
      split at e <;> cases e
      · exact departRun_rests h.standing nofun
      · next safe =>
        have quiet := h.quiet (by simp [safe])
        exact .of_quiet standing ⟨quiet.lists, quiet.table, quiet.timer⟩
      · exact h
    | restart =>
      cases e
      exact ⟨standing, fun r => ⟨(h.quiet r).lists, (h.quiet r).table, (h.quiet r).timer⟩⟩
    | setSilence =>
      simp only [owner, ownSetSilence] at e
      split at e
      · cases e
      · cases e
        split
        · exact ⟨h.standing.of_eq rfl rfl, fun r => ⟨(h.quiet r).lists, (h.quiet r).table, rfl⟩⟩
        · exact restartTimer_rests ⟨h.standing.of_eq rfl rfl,
            fun r => ⟨(h.quiet r).lists, (h.quiet r).table, (h.quiet r).timer⟩⟩
    | convert =>
      simp only [owner, ownConvert] at e
      split at e
      · cases e
      · split at e
        · cases e
        · split at e <;> cases e
          exact h.of_still standing (afterPlacing_only _).nc (afterPlacing_only _).su
            fun q => afterPlacing_still (q.of_se rfl) (h.standing.of_eq rfl rfl)
    | cancelConvert =>
      simp only [owner, ownCancelConvert] at e
      split at e
      · cases e
      · split at e
        · cases e; exact h.of_still standing rfl rfl fun q => q.of_se rfl
        · split at e <;> cases e
          · exact h.of_still standing (makeGrant_only _).nc (makeGrant_only _).su
              fun q => makeGrant_still (q.of_se rfl)
          · exact h
    | writeSteps =>
      simp only [owner, ownWriteSteps] at e
      split at e
      · cases e
      · split at e
        · cases e
        · split at e <;> cases e
          exact h.of_still standing rfl rfl fun q => q.of_states fun _ => rfl
    | defineList =>
      simp only [owner, ownDefineList] at e
      split at e
      · cases e
      · split at e
        · cases e
        · split at e <;> cases e
          exact h.of_still standing rfl rfl fun q => replaced_still q _ _
    | startList =>
      obtain ⟨run, only⟩ := ownStartList_run e
      exact .of_run standing (by rw [only.nc]; exact run)
    | stopList =>
      obtain ⟨only, still⟩ := ownStopList_only e
      exact h.of_only only standing fun q => by rw [still q]; exact q
    | clearList =>
      simp only [owner, ownClearList] at e
      split at e
      · cases e
      · split at e <;> cases e
        exact h.of_still standing rfl rfl fun q => replaced_still q _ _
    | schedule =>
      simp only [owner, ownSchedule] at e
      split at e
      · cases e
      · split at e
        · cases e
        · next run =>
          split at e
          · cases e
          · split at e <;> cases e
            exact .of_run standing (not_not.mp run)
    | cancelAction =>
      simp only [owner, ownCancelAction] at e
      split at e
      · cases e
      · split at e <;> cases e
        exact h.of_control standing rfl fun q => ⟨q.lists.of_se rfl, by simp [q.table]⟩
    | _ => cases hk

/-! ### The events -/

/-- A conversion's completion leaves the schedule and the node controller alone. -/
theorem storeRecord_control (x : Record) (toFifo : Bool) (s : State) :
    (storeRecord x toFifo s).1.nc = s.nc ∧ (storeRecord x toFifo s).1.su = s.su := by
  unfold storeRecord offer; dsimp only; split
  · split <;> simp
  · exact ⟨rfl, rfl⟩

theorem watchOutput_control (w : Fin 12) (a : Option WatchAction) (s : State) :
    (watchOutput w a s).nc = s.nc ∧ (watchOutput w a s).su = s.su := by
  unfold watchOutput; split
  · split <;> exact ⟨rfl, rfl⟩
  · exact ⟨rfl, rfl⟩

theorem evaluate_control (r : Record) (s : State) (w : Fin 12) :
    (evaluate r s w).nc = s.nc ∧ (evaluate r s w).su = s.su := by
  unfold evaluate
  split
  · exact ⟨rfl, rfl⟩
  · split
    · exact ⟨rfl, rfl⟩
    · split
      · exact ⟨rfl, rfl⟩
      · dsimp only
        split
        · unfold zoneChanged
          split
          · exact ⟨rfl, rfl⟩
          · dsimp only
            rw [(deliver_only ..).nc, (deliver_only ..).su, (watchOutput_control ..).1, (watchOutput_control ..).2]
            simp
        · exact ⟨rfl, rfl⟩

theorem evaluateAll_control (r : Record) (s : State) :
    (evaluateAll r s).nc = s.nc ∧ (evaluateAll r s).su = s.su :=
  foldl_keeps (P := fun t => t.nc = s.nc ∧ t.su = s.su)
    (fun t w h => ⟨(evaluate_control r t w).1.trans h.1, (evaluate_control r t w).2.trans h.2⟩) _ _ ⟨rfl, rfl⟩

theorem recordToOwner_control (o : Owner) (x : Record) (d : Disposition) (s : State) :
    (recordToOwner o x d s).nc = s.nc ∧ (recordToOwner o x d s).su = s.su := by
  unfold recordToOwner
  split
  · exact ⟨(recordToList_only ..).nc, (recordToList_only ..).su⟩
  · simp

theorem complete_control (c : Context) (s : State) : (complete c s).nc = s.nc ∧ (complete c s).su = s.su := by
  unfold complete
  split
  · exact ⟨rfl, rfl⟩
  · dsimp only
    rw [(makeGrant_only _).nc, (makeGrant_only _).su, (recordToOwner_control ..).1, (recordToOwner_control ..).2,
      (evaluateAll_control ..).1, (evaluateAll_control ..).2, (storeRecord_control ..).1,
      (storeRecord_control ..).2]
    exact ⟨rfl, rfl⟩

theorem acceptEdge_control (k : Fin 4) (d : Direction) (stamp : Stamp) (s : State) :
    (acceptEdge k d stamp s).nc = s.nc ∧ (acceptEdge k d stamp s).su = s.su := by
  unfold acceptEdge
  have logged := logEntry_sameCore (.edge k d stamp) s
  have only := ((markWaiting_only k _).trans (deliver_only false (.capture k) _)).trans (finishWaiting_only _)
    (s := logEntry (.edge k d stamp) s)
  dsimp only
  rw [State.raiseIf_nc, State.raiseIf_su, only.nc, only.su]
  exact ⟨logged.nc, logged.su⟩

theorem acceptEdge_rests {k : Fin 4} {d : Direction} {stamp : Stamp} (h : s.Rests) :
    (acceptEdge k d stamp s).Rests :=
  h.of_still (acceptEdge_standing h.standing) (acceptEdge_control ..).1 (acceptEdge_control ..).2
    fun q => acceptEdge_still q h.standing

theorem complete_rests {c : Context} (h : s.Rests) : (complete c s).Rests :=
  h.of_still (complete_standing h.standing) (complete_control ..).1 (complete_control ..).2
    fun q => complete_still q h.standing

theorem pinChanged_rests {k : Fin 4} {v : Level} (h : s.Rests) : (pinChanged k v s).Rests := by
  have same : ∀ f, (s.updInput k f).Rests := fun f => h.of_core ⟨rfl, rfl, rfl, rfl⟩
  unfold pinChanged
  dsimp only
  split
  · split
    · exact same _
    · exact h
  · split
    · exact h
    · split
      · exact same _
      · split
        · exact acceptEdge_rests (same _)
        · exact same _

/-- Nothing fires from an empty schedule. -/
theorem fireFront_rests (h : s.Rests) : (fireFront s).Rests := by
  refine h.of_control (fireFront_standing h.standing) ?_ fun q => ?_
  · unfold fireFront
    split
    · rfl
    · dsimp only
      rw [State.setTable_nc, State.raiseIf_nc]
      unfold actionEffect
      split
      · rfl
      · exact (takeTrigger_only ..).nc
  · unfold fireFront
    rw [q.table]
    exact ⟨q.lists, q.table⟩

theorem enterSafe_rests (h : s.Rests) : (enterSafe s).Rests := by
  have left := departRun_rests (target := .safe) (reason := .nodeSafe) h.standing nofun
  have core := safeWrite_core (departRun .safe .nodeSafe s)
  unfold enterSafe
  generalize departRun .safe .nodeSafe s = t at left core ⊢
  exact left.of_core ⟨core.se, core.ca, core.su, core.nc⟩

/-- A list's event in time finds a list that runs, so outside RUN it finds none. -/
theorem State.Still.not_active (h : s.Still) (k : Fin 8) : (s.list k).state ≠ .active := by
  rcases h.state k with e | e <;> simp [e]

theorem waitExpiry_rests (h : s.Rests) : (waitExpiry k s).Rests := by
  have only : (waitExpiry k s).nc = s.nc ∧ (waitExpiry k s).su = s.su := by
    unfold waitExpiry
    split
    · exact State.whenDue_keeps (P := fun t => t.nc = s.nc ∧ t.su = s.su) ⟨rfl, rfl⟩
        fun d => ⟨(finishStep_only ..).nc, (finishStep_only ..).su⟩
    · exact ⟨rfl, rfl⟩
  refine h.of_still (waitExpiry_standing h.standing) only.1 only.2 fun q => ?_
  unfold waitExpiry
  split
  · next active _ => exact absurd active (q.not_active k)
  · exact q

theorem awaitTimeout_rests (h : s.Rests) : (awaitTimeout k s).Rests := by
  have only : (awaitTimeout k s).nc = s.nc ∧ (awaitTimeout k s).su = s.su := by
    unfold awaitTimeout
    split
    · exact State.whenDue_keeps (P := fun t => t.nc = s.nc ∧ t.su = s.su) ⟨rfl, rfl⟩
        fun d => ⟨(endRun_only ..).nc, (endRun_only ..).su⟩
    · exact ⟨rfl, rfl⟩
  refine h.of_still (awaitTimeout_standing h.standing) only.1 only.2 fun q => ?_
  unfold awaitTimeout
  split
  · next active _ => exact absurd active (q.not_active k)
  · exact q

theorem restReached_rests (h : s.Rests) : (restReached k s).Rests := by
  have only : (restReached k s).nc = s.nc ∧ (restReached k s).su = s.su := by
    unfold restReached
    split
    · refine State.whenDue_keeps (P := fun t => t.nc = s.nc ∧ t.su = s.su) ⟨rfl, rfl⟩ fun d => ?_
      unfold leaveRest
      exact ⟨(beginStep_only ..).nc, (beginStep_only ..).su⟩
    · exact ⟨rfl, rfl⟩
  refine h.of_still (restReached_standing h.standing) only.1 only.2 fun q => ?_
  unfold restReached
  split
  · next resting => rcases q.state k with e | e <;> rw [e] at resting <;> cases resting
  · exact q

theorem hardReset_rests (cause : ResetCause) (s : State) : (hardReset cause s).Rests :=
  .of_quiet (hardReset_standing cause s) ⟨fun k => by rw [list_hardReset]; rfl, rfl, rfl⟩

theorem endHardReset_rests (straps : Straps) (s : State) : (endHardReset straps s).Rests :=
  .of_quiet (endHardReset_standing straps s)
    ⟨fun k => by rw [show (endHardReset straps s).list k = (hardReset s.nc.cause s).list k from rfl,
      list_hardReset]; rfl, rfl, rfl⟩

theorem softReset_rests (h : s.Rests) : (softReset s).Rests :=
  .of_quiet (softReset_standing h.standing)
    ⟨fun k => by rw [list_softReset]; cases (s.list k).defn <;> rfl, rfl, rfl⟩

/-- Every block's part of a step keeps how the lists stand and the node quiet outside RUN. -/
theorem rests_kept : KeptByBlocks State.Rests where
  queue _ _ h := h.of_core ⟨rfl, rfl, rfl, rfl⟩
  free _ h := h.of_core ⟨rfl, rfl, rfl, rfl⟩
  line _ _ h := h.of_core ⟨rfl, rfl, rfl, rfl⟩
  hand _ _ h := h.of_core ⟨rfl, rfl, rfl, rfl⟩
  timer _ h := restartTimer_rests h
  owner _ _ _ _ _ h e := owner_rests h e
  tick s h := by
    unfold tick; split
    · exact h
    · exact h.of_core ⟨rfl, rfl, rfl, rfl⟩
  por straps s _ := by
    unfold por; split
    · exact hardReset_rests ..
    · exact endHardReset_rests ..
  pinReset s h := by
    unfold pinReset; split
    · exact h
    · exact (hardReset_rests .pin s).of_core ⟨rfl, rfl, rfl, rfl⟩
  pinRelease straps s h := by
    unfold pinRelease; split
    · exact endHardReset_rests ..
    · exact h
  softReset _ h := softReset_rests h
  calibrationEnd s h := by
    unfold calibrationEnd; split
    · exact State.whenDue_keeps h fun _ => makeGrant_rests (h.of_core ⟨rfl, rfl, rfl, rfl⟩)
    · exact h
  checkEnd _ _ s h := by
    unfold checkEnd; split
    · exact State.whenDue_keeps h fun _ => h.of_core ⟨rfl, rfl, rfl, rfl⟩
    · exact h
  settleEnd s h := by
    unfold settleEnd; split
    · exact State.whenDue_keeps h fun _ => h.of_core ⟨rfl, rfl, rfl, rfl⟩
    · exact h
  sampleEnd level s h := by
    unfold sampleEnd; split
    · refine State.whenDue_keeps h fun _ => ?_
      unfold endSample
      dsimp only
      split
      · exact h.of_core ⟨rfl, rfl, rfl, rfl⟩
      · exact complete_rests (h.of_core ⟨rfl, rfl, rfl, rfl⟩)
    · exact h
  waitExpiry _ _ h := waitExpiry_rests h
  awaitTimeout _ _ h := awaitTimeout_rests h
  restStamp _ _ h := restReached_rests h
  capturePinChange k v s h := by
    unfold capturePinChange
    split
    · exact h
    · split
      · exact h.of_core ⟨rfl, rfl, rfl, rfl⟩
      · exact pinChanged_rests (h.of_core ⟨rfl, rfl, rfl, rfl⟩)
  debounceEnd k s h := by
    unfold debounceEnd
    split
    · split
      · exact State.whenDue_keeps h fun _ => acceptEdge_rests (h.of_core ⟨rfl, rfl, rfl, rfl⟩)
      · exact h
    · exact h
  actionFiring s h := State.whenDue_keeps h fun _ => fireFront_rests (h.of_core ⟨rfl, rfl, rfl, rfl⟩)
  silenceExpiry s h := State.whenDue_keeps h fun _ => enterSafe_rests (h.of_core ⟨rfl, rfl, rfl, rfl⟩)

/-- Settles O56: each invariant is kept by every block, so by every step. -/
theorem stepKeepsListsSoundAndQuiet : Obligations.StepKeepsListsSoundAndQuiet := by
  refine ⟨fun s t h e => ?_, fun s t h q e => ?_⟩
  · rw [listsSound_iff] at h ⊢
    exact standing_kept.step h e
  · rw [listsSound_iff] at h
    rw [quietOutsideRun_iff] at q ⊢
    exact (rests_kept.step (State.Rests.mk h q) e).quiet

end

end Sys2Proof.Machine
end

section
/-! The requests of the Scan Engine and the reads of the other tables: each is its owner's verdict. -/

namespace Sys2Proof.Machine

/-! ### Updates written out -/

/-- A notice raised or not, field by field. -/
theorem State.raiseIf_eq (s : State) (c : Bool) (b : NoticeBody) :
    s.raiseIf c b = if c = true then { s with nq := s.nq.raise s.tcu.stamp b } else s := by cases c <;> rfl

/-- A flag of a list's definition, clear where there is none. -/
theorem State.listFlag_eq (s : State) (k : Fin 8) (f : ListDef → Bool) :
    s.listFlag k f = ((s.list k).defn.map f).getD false := by
  unfold State.listFlag; cases (s.list k).defn <;> rfl

/-- A change of a list's record is what it makes of the record. -/
theorem State.updList_congr {s : State} {k : Fin 8} {f g : ListRecord → ListRecord}
    (h : f (s.list k) = g (s.list k)) : s.updList k f = s.updList k g := by
  unfold State.updList; rw [h]

/-- Two changes of one list's record are one. -/
theorem State.updList_updList (s : State) (k : Fin 8) (f g : ListRecord → ListRecord) :
    (s.updList k f).updList k g = s.updList k fun l => g (f l) := by
  simp [State.updList, State.list]

/-! ### Numbers of the tables, and bytes of the replies -/

theorem allLists_eq : allLists = List.finRange 8 := by decide

theorem allWatches_eq : allWatches = List.finRange 12 := by decide

/-- A number in range is that number of the table. -/
theorem below_eq_some {n b : Nat} {k : Fin n} (h : b = k.val) : below n b = some k := by
  subst h; exact dif_pos k.isLt

theorem below_eq_none {n b : Nat} (h : n ≤ b) : below n b = none := dif_neg (by omega)

/-- The checks of a first step number and a count, in their order (01 R3, R4). -/
theorem stepRangeError_eq (b : List Byte) : stepRangeError b =
    if 127 < byteAt b 0 then some 1
    else if byteAt b 1 = 0 ∨ 59 < byteAt b 1 ∨ 128 < byteAt b 0 + byteAt b 1 then some 2 else none := by
  unfold stepRangeError
  simp only [Bool.or_eq_true, beq_iff_eq, decide_eq_true_eq, or_assoc]

theorem progressFlags_eq (l : ListRecord) : progressFlags l =
    (if l.stopPending then 1 else 0) + (if l.triggerPending then 2 else 0)
      + (if l.inFlight then 4 else 0) + (if l.expiry.isSome then 8 else 0) := by
  have scaled : ∀ (n : Nat) (b : Bool), n * flag b = if b then n else 0 := by
    intro n b; cases b <;> simp [flag]
  unfold progressFlags
  rw [scaled, scaled, scaled]
  rfl

/-! ### Reads -/

/-- Settles O15: each read's verdict, written out. -/
theorem tableReads : Obligations.TableReads := by
  intro r s
  refine ⟨fun h hl => ?_, fun h hl => ?_, fun h hl => ?_, fun h hl => ?_⟩
  · dsimp only
    rw [exec_owned rfl h (by simp [bodyLengthOk, hl])]
    simp only [owner, ownReadSteps]
    rw [stepRangeError_eq]
    by_cases first : 127 < byteAt r.body 0
    · rw [if_pos first, if_pos first]; rfl
    · rw [if_neg first, if_neg first]
      by_cases count : byteAt r.body 1 = 0 ∨ 59 < byteAt r.body 1 ∨ 128 < byteAt r.body 0 + byteAt r.body 1
      · rw [if_pos count, if_pos count]; rfl
      · rw [if_neg count, if_neg count]; rfl
  · rw [exec_owned rfl h (by simp [bodyLengthOk, hl])]
    simp only [owner, ownListStatus]
    cases below 8 (byteAt r.body 0) with
    | none => rfl
    | some k =>
      simp only [listStatusBytes, progressFlags_eq, concludes]
      rw [show (s.taken .listStatus r).list k = s.list k from rfl]
      cases (s.list k).endRecord with
      | none => rfl
      | some e => rfl
  · rw [exec_owned rfl h (by simp [bodyLengthOk, hl])]
    simp only [owner, ownWatchStatus]
    by_cases mask : 4095 < wordAt r.body 0
    · rw [if_pos mask, if_pos mask]; rfl
    · rw [if_neg mask, if_neg mask, allWatches_eq]
      have items : ∀ w, watchItem w ((s.taken .watchStatus r).watch w) = (match s.watch w with
          | none => u8 w.val ++ [0]
          | some e => u8 w.val ++ [1] ++ watchDefBytes e.defn ++ u8 (zoneCode e.zone)
              ++ u8 (zoneCode e.pending) ++ u8 e.count ++ u16 ((e.zoneSeq.map BitVec.toNat).getD 0)) := by
        intro w
        rw [show (s.taken .watchStatus r).watch w = s.watch w from rfl]
        cases s.watch w <;> rfl
      simp only [items, concludes]
      rfl
  · rw [exec_owned rfl h (by simp [bodyLengthOk, hl])]
    simp only [owner, ownScheduleStatus]
    by_cases start : 23 < byteAt r.body 0
    · rw [if_pos start, if_pos start]; rfl
    · rw [if_neg start, if_neg start]; rfl

/-! ### WRITE_STEPS, DEFINE_LIST and CLEAR_LIST -/

/-- The steps in use, as the statements say it: a step of the records that a running list covers. -/
theorem stepsInUse_iff_step (s : State) (h : s.ListsSound) (first count : Nat) (hc : 1 ≤ count) :
    stepsInUse s.se first count = true ↔
      ∃ k d, (s.list k).state.running = true ∧ (s.list k).defn = some d ∧
        ∃ n, first ≤ n ∧ n < first + count ∧ d.firstStep ≤ n ∧ n < d.firstStep + d.stepCount := by
  rw [stepsInUse_iff]
  constructor
  · rintro ⟨k, d, hd, hr, before, after⟩
    have covered := ((h.sound k).covered d hd).1
    exact ⟨k, d, hr, hd, max first d.firstStep, by omega, by omega, by omega, by omega⟩
  · rintro ⟨k, d, hr, hd, n, h1, h2, h3, h4⟩
    exact ⟨k, d, hd, hr, by omega, by omega⟩

/-- Settles O40. -/
theorem writeStepsWrites : Obligations.WriteStepsWrites := by
  intro r s h hl sound
  have verdict : exec (.writeSteps r) s =
      .next (concludes .writeSteps r s (ownWriteSteps r.body (s.taken .writeSteps r))) := exec_owned rfl h hl
  unfold ownWriteSteps at verdict
  rw [stepRangeError_eq] at verdict
  refine ⟨fun first => ?_, fun first count => ?_, fun low high sum => ?_⟩
  · rw [if_pos first] at verdict; exact verdict
  · rw [if_neg (by omega), if_pos count] at verdict; exact verdict
  · rw [if_neg (by omega), if_neg (by omega)] at verdict
    cases hp : parseSteps r.body 2 (byteAt r.body 1) with
    | error d => rw [hp] at verdict; exact verdict
    | ok records =>
      have length := parseSteps_length hp
      have inUse := stepsInUse_iff_step s sound (byteAt r.body 0) (byteAt r.body 1) low
      rw [hp] at verdict
      dsimp only at verdict ⊢
      rw [show (s.taken .writeSteps r).se = s.se from rfl] at verdict
      refine ⟨length, fun busy => ?_, fun free => ?_⟩
      · rw [if_pos (inUse.mpr busy)] at verdict; exact verdict
      · rw [if_neg fun e => free (inUse.mp e)] at verdict
        exact ⟨writeSteps s.se.steps (byteAt r.body 0) records,
          fun n hn => by rw [writeSteps_get hn, length], verdict⟩

/-- Settles O41. -/
theorem defineAndClearList : Obligations.DefineAndClearList := by
  intro r s
  refine ⟨fun h hl => ?_, fun h hl => ?_⟩
  · have verdict : exec (.defineList r) s =
        .next (concludes .defineList r s (ownDefineList r.body (s.taken .defineList r))) :=
      exec_owned rfl h (by simp [bodyLengthOk, hl])
    unfold ownDefineList at verdict
    refine ⟨fun number => ?_, fun k number => ?_⟩
    · rw [below_eq_none number] at verdict; exact verdict
    · rw [below_eq_some number] at verdict
      dsimp only at verdict
      cases hp : parseListDef r.body k with
      | error d => rw [hp] at verdict; exact verdict
      | ok d =>
        rw [hp] at verdict
        dsimp only at verdict ⊢
        rw [show (s.taken .defineList r).list k = s.list k from rfl] at verdict
        by_cases running : (s.list k).state.running = true
        · rw [if_pos running] at verdict ⊢; exact verdict
        · rw [if_neg running] at verdict ⊢; exact verdict
  · have verdict : exec (.clearList r) s =
        .next (concludes .clearList r s (ownClearList r.body (s.taken .clearList r))) :=
      exec_owned rfl h (by simp [bodyLengthOk, hl])
    unfold ownClearList at verdict
    refine ⟨fun number => ?_, fun k number => ?_⟩
    · rw [below_eq_none number] at verdict; exact verdict
    · rw [below_eq_some number] at verdict
      dsimp only at verdict
      rw [show (s.taken .clearList r).list k = s.list k from rfl] at verdict
      by_cases running : (s.list k).state.running = true
      · rw [if_pos running] at verdict ⊢; exact verdict
      · rw [if_neg running] at verdict ⊢; exact verdict

end Sys2Proof.Machine
end

section
/-! START_LIST, STOP_LIST and a list's events in time. -/

namespace Sys2Proof.Machine

/-! ### START_LIST -/

/-- The outcome of a trigger that a running HOST list takes (01 R23, R25). -/
theorem retriggerOutcome_eq (l : ListRecord) (p : Policy) :
    u8 (retriggerOutcome (retriggerOf l p)) = [if l.stopPending = true then 6
      else match p with
        | .ignore => 6
        | .restart => 4
        | .queueOne => if l.triggerPending = true then 6 else 5] := by
  unfold retriggerOf
  cases l.stopPending
  · cases p with
    | queueOne => cases l.triggerPending <;> rfl
    | _ => rfl
  · rfl

/-- START_LIST of a list in the table on a node in RUN: by the list's state and source (01 R25). -/
theorem ownStartList_run_eq {b : List Byte} {s : State} {k : Fin 8} {d : ListDef} (number : byteAt b 0 = k.val)
    (run : s.nc.state = .run) (hd : (s.list k).defn = some d) :
    ((s.list k).state = .ready → ownStartList b s =
      if d.source == .host then startReply k 1 (startRun false k s) else startReply k 2 (armList k s)) ∧
    ((s.list k).state = .armed → ownStartList b s = startReply k 3 s) ∧
    ((s.list k).state = .active ∨ (s.list k).state = .resting → ownStartList b s =
      if d.source == .host then
        startReply k (retriggerOutcome (retriggerOf (s.list k) d.policy)) (retrigger false k d.policy s)
      else .refuse .busy 0) := by
  unfold ownStartList
  rw [below_eq_some number]
  dsimp only
  rw [if_neg (by simp [run]), hd]
  refine ⟨fun e => by rw [e], fun e => by rw [e], fun e => ?_⟩
  rcases e with e | e <;> rw [e]

/-- Settles O42. -/
theorem startListOutcomes : Obligations.StartListOutcomes := by
  intro r s h hl
  have verdict : exec (.startList r) s =
      .next (concludes .startList r s (ownStartList r.body (s.taken .startList r))) :=
    exec_owned rfl h (by simp [bodyLengthOk, hl])
  refine ⟨fun number => ?_, fun k number => ⟨fun notRun => ?_, fun run undefined => ?_, fun d run hd => ?_⟩⟩
  · unfold ownStartList at verdict
    rw [below_eq_none number] at verdict
    exact verdict
  · unfold ownStartList at verdict
    rw [below_eq_some number] at verdict
    dsimp only at verdict
    rw [if_pos (show (s.taken .startList r).nc.state ≠ .run from notRun)] at verdict
    exact verdict
  · unfold ownStartList at verdict
    rw [below_eq_some number] at verdict
    dsimp only at verdict
    rw [if_neg (show ¬ (s.taken .startList r).nc.state ≠ .run from not_not.mpr run),
      show ((s.taken .startList r).list k).defn = none from undefined] at verdict
    rw [verdict]
    cases ((s.taken .startList r).list k).state <;> rfl
  · obtain ⟨ready, armed, running⟩ := ownStartList_run_eq (s := s.taken .startList r) number run hd
    refine ⟨fun e host => ?_, fun e other => ?_, fun e => ?_, fun e other => ?_, fun e host => ?_⟩
    · rw [verdict, ready e, if_pos (by simp [host])]; rfl
    · rw [verdict, ready e, if_neg (by simpa using other)]; rfl
    · rw [verdict, armed e]; rfl
    · rw [verdict, running e, if_neg (by simpa using other)]; rfl
    · rw [verdict, running e, if_pos (by simp [host])]
      simp only [startReply, concludes, retriggerOutcome_eq]
      rfl

/-! ### STOP_LIST -/

/-- An ARMED list disarmed, written out (01 R26). -/
theorem disarm_eq (k : Fin 8) (reason : EndReason) (s : State) : disarm k reason s =
    (let t := s.updList k fun l => { l with state := .ready, endRecord := some (reason, s.tcu.stamp) }
     if ((s.list k).defn.map ListDef.notifyEnd).getD false = true then
       { t with nq := t.nq.raise s.tcu.stamp (.listEnd k reason (s.list k).passes (s.list k).missed
           (s.list k).overruns (s.list k).preemptions) }
     else t) := by
  unfold disarm listEndNotice
  dsimp only
  rw [State.raiseIf_eq, State.listFlag_eq, State.list_updList_self]
  rfl

/-- STOP_LIST of a list in the table, by its option (01 R26, R27). -/
theorem ownStopList_eq {b : List Byte} {k : Fin 8} (number : byteAt b 0 = k.val) (s : State) :
    ownStopList b s = if byteAt b 1 = 0 then stopNow k s
      else if byteAt b 1 = 1 then stopFinish k s else .refuse .field 2 := by
  unfold ownStopList
  rw [below_eq_some number]
  rcases h : byteAt b 1 with _ | _ | n
  · rfl
  · rfl
  · rw [if_neg (by omega), if_neg (by omega)]; rfl

theorem stopFinish_eq (k : Fin 8) (s : State) : stopFinish k s = if (s.list k).state = .active then
      stopReply k 2 (s.updList k fun l => { l with stopPending := true, triggerPending := false })
    else stopNow k s := by
  unfold stopFinish
  cases (s.list k).state <;> rfl

/-- Settles O43. -/
theorem stopListOutcomes : Obligations.StopListOutcomes := by
  intro r s h hl
  have verdict : exec (.stopList r) s =
      .next (concludes .stopList r s (ownStopList r.body (s.taken .stopList r))) :=
    exec_owned rfl h (by simp [bodyLengthOk, hl])
  refine ⟨fun number => ?_, fun k number => ?_⟩
  · unfold ownStopList at verdict
    rw [below_eq_none number] at verdict
    exact verdict
  · have same : (s.taken .stopList r).list k = s.list k := rfl
    rw [ownStopList_eq number, stopFinish_eq, same] at verdict
    refine ⟨fun other => ?_, fun finish active => ?_, fun option => ?_⟩
    · rw [verdict, if_neg (by omega), if_neg (by omega)]; rfl
    · rw [verdict, if_neg (by omega), if_pos finish, if_pos active]; rfl
    · have immediate : exec (.stopList r) s =
          .next (concludes .stopList r s (stopNow k (s.taken .stopList r))) := by
        rcases option with e | ⟨e, notActive⟩
        · rw [verdict, if_pos e]
        · rw [verdict, if_neg (by omega), if_pos e, if_neg notActive]
      unfold stopNow at immediate
      rw [same] at immediate
      refine ⟨fun running => ?_, fun armed => ?_, fun idle => ?_⟩
      · rcases running with e | e <;> rw [e] at immediate <;> exact immediate
      · rw [armed, disarm_eq] at immediate; exact immediate
      · rcases idle with e | e <;> rw [e] at immediate <;> exact immediate

/-! ### Events in time -/

/-- The stamp an ACTIVE list waits for is its expiry stamp. -/
theorem due_of_active {l : ListRecord} (h : l.state = .active) : l.due = l.expiry := by
  unfold ListRecord.due; rw [h]

/-- A list's event in time does nothing where the list is in another state or has no such stamp. -/
theorem waitExpiry_nothing {k : Fin 8} {s : State} (h : (s.list k).state ≠ .active ∨ (s.list k).expiry = none) :
    waitExpiry k s = s := by
  unfold waitExpiry
  split
  · next active _ =>
    rw [due_of_active active, h.resolve_left (not_not.mpr active)]
    rfl
  · rfl

theorem awaitTimeout_nothing {k : Fin 8} {s : State} (h : (s.list k).state ≠ .active ∨ (s.list k).expiry = none) :
    awaitTimeout k s = s := by
  unfold awaitTimeout
  split
  · next active _ =>
    rw [due_of_active active, h.resolve_left (not_not.mpr active)]
    rfl
  · rfl

/-- Settles O44. -/
theorem listStampsReached : Obligations.ListStampsReached := by
  intro k s hr
  refine ⟨fun e n active atWait expiry reached => ?_, fun h => congrArg Host.Outcome.next (waitExpiry_nothing h),
    fun e i n active atAwait expiry reached => ?_, fun h => congrArg Host.Outcome.next (awaitTimeout_nothing h),
    fun d resting hd => ?_, fun h => congrArg Host.Outcome.next ?_⟩
  · refine congrArg Host.Outcome.next ?_
    unfold waitExpiry
    rw [active, atWait, due_of_active active, expiry]
    exact State.whenDue_due _ hr reached
  · refine congrArg Host.Outcome.next ?_
    unfold awaitTimeout
    rw [active, atAwait, due_of_active active, expiry]
    exact State.whenDue_due _ hr reached
  · intro rest reached
    have stamp : Machine.restStamp (s.list k) = rest := by unfold Machine.restStamp; rw [hd]; rfl
    refine congrArg Host.Outcome.next ?_
    unfold restReached
    have due : (s.list k).due = some rest := by unfold ListRecord.due; rw [resting, ← stamp]
    rw [resting, due]
    refine (State.whenDue_due _ hr reached).trans ?_
    unfold leaveRest
    have same : ∀ u : State, u.list k = s.list k →
        (u.updList k fun l => { l with state := .active, stepIndex := 0, passStart := Machine.restStamp l }) =
        u.updList k fun l => { l with state := .active, stepIndex := 0, passStart := rest } :=
      fun u hu => State.updList_congr (by rw [hu, stamp])
    rw [same (s.advance rest) rfl]
    rfl
  · unfold restReached
    split
    · next resting => exact absurd resting h
    · rfl

end Sys2Proof.Machine
end

section
/-! The life of a list, one operation at a time: steps and runs begin, passes and runs end, triggers and
records come (01 §1.3, §1.4). -/

namespace Sys2Proof.Machine

/-! ### Steps and runs begin -/

/-- Settles O45: one equation for each kind of step, for a run, and for the two ends of a step. -/
theorem stepsAndRunsBegin : Obligations.StepsAndRunsBegin := by
  intro closing k s
  refine ⟨fun c g h => ?_, fun n h => ?_, fun i n h => ?_, fun i h => ?_, rfl, fun d hd => ⟨fun more => ?_, fun last => ?_⟩⟩
  · unfold beginStep; rw [h]; rfl
  · unfold beginStep; rw [h]; rfl
  · unfold beginStep; rw [h]; rfl
  · unfold beginStep; rw [h]; rfl
  · unfold finishStep
    rw [hd]
    dsimp only
    rw [if_pos more]
    exact congrArg _ (State.updList_congr rfl)
  · unfold finishStep
    rw [hd]
    dsimp only
    rw [if_neg (by omega)]

/-! ### A pass ends -/

/-- The pass counted and told, written out (01 R17). -/
theorem countPass_eq (d : ListDef) (k : Fin 8) (s : State) : countPass d k s =
    (let passes := morePasses d (s.list k).passes
     let counted := s.updList k fun l => { l with passes := passes }
     if d.notifyPass = true then { counted with nq := s.nq.raise s.tcu.stamp (.listPass k passes) }
     else counted) := by
  unfold countPass
  dsimp only
  rw [State.raiseIf_eq, State.list_updList_self,
    State.updList_congr (g := fun l => { l with passes := morePasses d (s.list k).passes }) rfl]
  rfl

/-- Rest or overrun, written out (01 R18). -/
theorem restOrOverrun_eq (closing : Bool) (d : ListDef) (k : Fin 8) (s : State) :
    restOrOverrun closing d k s =
    (let gone := (s.tcu.stamp - (s.list k).passStart).toNat
     if gone < d.passPeriod then s.updList k fun l => { l with state := .resting }
     else
       let overrun := s.updList k fun l => { l with overruns := min (l.overruns + 1) 65535 }
       let told : State := if d.notifyPass = true then
         { overrun with
           nq := s.nq.raise s.tcu.stamp (.listOverrun k (s.list k).passes (gone - d.passPeriod)) }
         else overrun
       beginStep closing k (told.updList k fun l => { l with passStart := s.tcu.stamp })) := by
  unfold restOrOverrun nextPass
  dsimp only
  rw [State.now_raiseIf, State.raiseIf_eq, State.list_updList_self]
  rfl

/-- Settles O46. -/
theorem passEnds : Obligations.PassEnds := by
  intro closing k d s passes counted noted gone
  have counts : countPass d k s = noted := countPass_eq d k s
  have record : noted.list k = { s.list k with passes := passes } := by rw [← counts, list_countPass_self]; rfl
  have stamp : noted.tcu.stamp = s.tcu.stamp := by rw [← counts, (countPass_only d k s).tcu]
  unfold endPass
  dsimp only
  rw [counts, restOrOverrun_eq, record, stamp]
  unfold nextPass
  rw [show noted.now = s.tcu.stamp from stamp]

/-! ### A run ends -/

/-- A change of a record that leaves it as it is changes nothing. -/
theorem State.updList_self {s : State} {k : Fin 8} {f : ListRecord → ListRecord} (h : f (s.list k) = s.list k) :
    s.updList k f = s := by
  unfold State.updList
  rw [h]
  unfold State.list
  simp

/-- The conversion in flight abandoned, where the list has it; the in-flight flag cleared (01 R20, 02 R44). -/
theorem leaveConverter_eq (k : Fin 8) (s : State) : leaveConverter k s =
    (if (s.list k).inFlight = true ∧ s.ca.ownedByList k = true then
      { s with ca := { s.ca with grant := none }, cv := { s.cv with state := .idle } } else s).updList k
      fun l => { l with inFlight := false } := by
  unfold leaveConverter
  by_cases inFlight : (s.list k).inFlight = true
  · by_cases owned : s.ca.ownedByList k = true
    · rw [if_pos inFlight, if_pos (And.intro inFlight owned)]
      exact if_pos owned
    · rw [if_pos inFlight, if_neg (mt And.right owned)]
      exact if_neg owned
  · rw [if_neg inFlight, if_neg (mt And.left inFlight), State.updList_self]
    rw [← Bool.eq_false_iff.mpr inFlight]

/-- Settles O47. -/
theorem runEnds : Obligations.RunEnds := by
  intro closing k reason d s hd freed ended told
  have same : freed.list k = s.list k ∧ freed.nq = s.nq ∧ freed.tcu = s.tcu := by
    change (State.list (ite _ _ _) k = _) ∧ State.nq (ite _ _ _) = _ ∧ State.tcu (ite _ _ _) = _
    split <;> exact ⟨rfl, rfl, rfl⟩
  have close : closeRun k reason s = told := by
    have ending : (leaveConverter k s).updList k (fun l =>
        { l with state := if rearms s k reason then .armed else .ready, stepIndex := 0, expiry := none,
                 stopPending := false, edgeWaiting := false,
                 triggerPending := if reason == .completed then l.triggerPending else false,
                 endRecord := some (reason, s.now) }) = ended := by
      rw [leaveConverter_eq, State.updList_updList]
      refine State.updList_congr ?_
      rw [same.1]
      unfold rearms
      rw [State.listFlag_eq, hd]
      cases reason <;> simp [State.now]
    unfold closeRun
    dsimp only
    rw [ending, State.raiseIf_eq, State.listFlag_eq]
    have record : (ended.list k).defn = some d ∧ listEndNotice ended k reason =
        .listEnd k reason (s.list k).passes (s.list k).missed (s.list k).overruns (s.list k).preemptions := by
      unfold listEndNotice
      rw [State.list_updList_self, same.1]
      exact ⟨hd, rfl⟩
    rw [record.1, record.2, show ended.nq = s.nq from same.2.1,
      show ended.tcu.stamp = s.tcu.stamp from congrArg Timebase.stamp same.2.2]
    simp only [Option.map_some, Option.getD_some, Bool.or_eq_true, beq_iff_eq, or_assoc]
    rfl
  refine ⟨close, fun other => ?_, fun completed => ?_⟩
  · rw [endRun_eq_closeRun other, close]
  · unfold endRun
    dsimp only
    rw [if_pos (by simp [completed]), close]
    rfl

/-! ### Triggers -/

/-- The retrigger rule, written out (01 R23). -/
theorem retrigger_eq (closing : Bool) (k : Fin 8) (p : Policy) (s : State) : retrigger closing k p s =
    (let missed := s.updList k fun l => { l with missed := min (l.missed + 1) 65535 }
     let fresh := startRun true k (closeRun k .retriggered s)
     if (s.list k).stopPending = true then missed
     else match p with
       | .ignore => missed
       | .restart => if closing = true then fresh else makeGrant fresh
       | .queueOne => if (s.list k).triggerPending = true then missed
           else s.updList k fun l => { l with triggerPending := true }) := by
  unfold retrigger retriggerOf
  cases (s.list k).stopPending
  · cases p with
    | queueOne => cases (s.list k).triggerPending <;> rfl
    | _ => rfl
  · rfl

/-- Settles O48. -/
theorem triggerTaken : Obligations.TriggerTaken := by
  refine ⟨fun closing src s => by unfold deliver; rw [allLists_eq], fun closing src k s =>
    ⟨fun other => ?_, fun d hd source => ?_⟩⟩
  · unfold takeTrigger
    split
    · rfl
    · next d hd => rw [if_neg (by simpa using other d hd)]
  · unfold takeTrigger
    rw [hd]
    dsimp only
    rw [if_pos (by simp [source]), retrigger_eq]
    cases (s.list k).state <;> cases d.policy <;> rfl

/-! ### Records -/

/-- Settles O49. -/
theorem recordReachesList : Obligations.RecordReachesList := by
  intro k dropped s
  refine ⟨fun idle => ?_, fun d inFlight hd => ?_⟩
  · unfold recordToList
    rw [if_neg (by simp [idle])]
  · intro took next stepped passes passed
    have counted : countPass d k stepped = if d.notifyPass = true then
        { passed with nq := s.nq.raise s.tcu.stamp (.listPass k passes) } else passed := by
      rw [countPass_eq]
      have record : (stepped.list k).passes = (s.list k).passes := by
        rw [State.list_updList_self, State.list_updList_self]
      dsimp only
      rw [record]
      rfl
    unfold recordToList
    rw [if_pos inFlight, hd]
    unfold endOnDrop
    dsimp only
    rw [State.list_updList_self]
    change (if (dropped && d.stopOnFull) = true then
      endRun true k .fifoFull (if next < d.stepCount then stepped else countPass d k stepped)
      else finishStep true k took) = _
    rw [counted]
    simp only [Bool.and_eq_true]

end Sys2Proof.Machine
end

section
/-! The state after a reset: the invariants at power-on, and the SOFT reset that may follow a sending. -/

namespace Sys2Proof.Machine

/-! ### The state right after a power-on reset -/

theorem list_reset (k : Fin 8) : State.reset.list k = .fresh none := by
  simp [State.reset, State.list, ScanEngine.reset]

theorem line_reset (k : Fin 4) : State.reset.line k = .reset := by
  simp [State.reset, State.line, OutputUnit.reset]

theorem watch_reset (w : Fin 12) : State.reset.watch w = none := by
  simp [State.reset, State.watch, WatchUnit.reset]

/-- STARTED alone in the queue keeps its shape (08 R128, R129). -/
theorem reset_shaped : State.reset.nq.Shaped where
  bounded := by decide
  lastPlace _ := by decide
  oneLost := by decide
  numbers := by decide
  sequence := by decide
  deliveredFirst := by decide
  record := by decide
  agrees n hn c f hb := by
    obtain rfl := List.mem_singleton.mp hn
    cases hb

theorem reset_claimUnserved : State.reset.claimUnserved = false := rfl

/-- Settles O53: every store is empty, every list UNDEFINED, and the node in STANDBY. -/
theorem resetMeetsInvariants : Obligations.ResetMeetsInvariants := by
  refine ⟨⟨by decide, by decide, by decide, by decide⟩, reset_shaped, rfl, ⟨by decide, by decide⟩, ?_, ?_,
    reset_claimUnserved, ⟨List.Pairwise.nil, nofun, nofun, List.nodup_nil, by decide⟩, nofun,
    ⟨by decide, by decide⟩, ?_⟩
  · exact (listsSound_iff _).mpr (fresh_standing list_reset rfl nofun)
  · exact fun _ => ⟨fun k => by rw [list_reset]; rfl, rfl, rfl⟩
  · intro w e h
    rw [watch_reset] at h
    cases h

/-! ### The SOFT reset -/

/-- A table made entry by entry out of another is that table mapped. -/
theorem vecOf_eq_map {α β : Type} {n : Nat} (v : Vector α n) (f : α → β) :
    (vecOf fun k : Fin n => f v[k]) = v.map f := by
  ext i hi
  simp

/-- The capture inputs after a reset: each settled level its pin's, no context (06 R98). -/
theorem restart_inputs (t : Timebase) :
    (t.restart fun k => t.inputs[k]).inputs = Vector.zipWith
      (fun (i : CaptureInput) pin => { i with settled := pin, context := none }) t.inputs t.pins := by
  ext i hi
  simp [Timebase.restart]

/-- What a SOFT reset leaves, in every block (11 R179). -/
theorem softReset_eq (s : State) : softReset s =
    { se := { steps := s.se.steps, lists := s.se.lists.map fun l => .fresh l.defn }
      ca := .reset
      cv := { state := .idle, settings := s.cv.settings }
      rs := .reset s.rs.level
      wu := { watches := s.wu.watches.map fun w => w.map fun e => .fresh e.defn }
      tcu := { stamp := 0
               inputs := Vector.zipWith (fun (i : CaptureInput) pin =>
                 { i with settled := pin, context := none }) s.tcu.inputs s.tcu.pins
               pins := s.tcu.pins, log := [], dropped := 0, overflowArmed := true }
      ou := { lines := s.ou.lines.map OutputLine.softReset }
      su := .reset
      nq := { notices := [{ seq := 1, stamp := 0, body := .started .soft s.li.straps, delivered := false }]
              nextSeq := 2, lost := none }
      rh := { inHand := none, cache := s.rh.cache }
      li := { straps := s.li.straps, rx := .syncing, tx := .idle, counters := .reset }
      nc := { state := .standby, cause := .soft, silence := s.nc.silence, timer := none
              restartPending := false }
      resetHeld := s.resetHeld, free := s.free, pending := s.pending } := by
  rw [← vecOf_eq_map s.se.lists, ← vecOf_eq_map s.wu.watches, ← vecOf_eq_map s.ou.lines, ← restart_inputs]
  rfl

/-- Settles O5. -/
theorem sendingEnds : Obligations.SendingEnds := by
  refine ⟨fun s reply sending pending => congrArg Host.Outcome.next ?_,
    fun s reply sending pending => congrArg Host.Outcome.next ?_,
    fun s idle => congrArg Host.Outcome.next ?_⟩
  · unfold sendingEnd
    rw [sending]
    exact if_neg (by simp [pending])
  · unfold sendingEnd
    rw [sending]
    exact (if_pos pending).trans (softReset_eq _)
  · unfold sendingEnd
    split
    · next reply sending => exact absurd sending (idle reply)
    · rfl
    · rfl

end Sys2Proof.Machine
end

section
/-! The node leaving RUN, for STANDBY and for SAFE (11 R173, R174, R176, 01 R29). -/

namespace Sys2Proof.Machine

section
variable {s t : State} {k : Fin 8} {reason : EndReason}

/-! ### What becomes of each list -/

/-- A list that runs is READY after the node has ended it, with its end record; its passes and its
definition stay (01 R29). -/
theorem list_endForNode_self (h : reason ≠ .completed) (hr : (s.list k).state.running = true) :
    ((endForNode reason k s).list k).state = .ready ∧
    ((endForNode reason k s).list k).endRecord = some (reason, s.now) ∧
    ((endForNode reason k s).list k).passes = (s.list k).passes ∧
    ((endForNode reason k s).list k).defn = (s.list k).defn := by
  have closed : ((closeRun k reason s).list k).state = .ready ∧
      ((closeRun k reason s).list k).endRecord = some (reason, s.now) ∧
      ((closeRun k reason s).list k).passes = (s.list k).passes ∧
      ((closeRun k reason s).list k).defn = (s.list k).defn := by
    refine ⟨state_closeRun_ready h k s, ?_⟩
    rw [list_closeRun_self]
    exact ⟨rfl, rfl, rfl⟩
  unfold endForNode
  split
  · rw [endRun_eq_closeRun h]; exact closed
  · rw [endRun_eq_closeRun h]; exact closed
  · rw [list_disarm]; exact ⟨rfl, rfl, rfl, rfl⟩
  · next e => rw [e] at hr; cases hr
  · next e => rw [e] at hr; cases hr

/-- A list that does not run is left alone. -/
theorem endForNode_of_not_running (hr : (s.list k).state.running = false) : endForNode reason k s = s := by
  unfold endForNode
  split
  · next e => rw [e] at hr; cases hr
  · next e => rw [e] at hr; cases hr
  · next e => rw [e] at hr; cases hr
  · rfl
  · rfl

/-- A grant reaches no list that is not ACTIVE. -/
theorem list_makeGrant_of_not_active (h : (s.list k).state ≠ .active) : (makeGrant s).list k = s.list k := by
  rcases list_makeGrant s k with e | ⟨active, -⟩
  · exact e
  · exact absurd active h

/-- The same of all the lists together. -/
theorem list_endAllLists (h : reason ≠ .completed) (s : State) (k : Fin 8) :
    ((s.list k).state.running = true →
      ((endAllLists reason s).list k).state = .ready ∧
      ((endAllLists reason s).list k).endRecord = some (reason, s.now) ∧
      ((endAllLists reason s).list k).passes = (s.list k).passes ∧
      ((endAllLists reason s).list k).defn = (s.list k).defn) ∧
    ((s.list k).state.running = false → (endAllLists reason s).list k = s.list k) := by
  obtain ⟨u, same, only, e⟩ := foldl_endForNode reason h k s
  have still := state_endForNode h k u
  have granted : (endAllLists reason s).list k = (endForNode reason k u).list k := by
    unfold endAllLists
    rw [list_makeGrant_of_not_active, e]
    rw [e]
    intro active
    rw [active] at still
    cases still
  rw [granted]
  refine ⟨fun running => ?_, fun idle => ?_⟩
  · rw [← same, ← only.now]
    exact list_endForNode_self h (by rw [same]; exact running)
  · rw [endForNode_of_not_running (by rw [same]; exact idle), same]

/-! ### What becomes of the arbiter -/

theorem closeRun_arbiter (k : Fin 8) (reason : EndReason) (s : State) :
    (closeRun k reason s).ca = (leaveConverter k s).ca ∧ (closeRun k reason s).cv = (leaveConverter k s).cv := by
  unfold closeRun; simp

/-- A list that does not own the conversion in flight leaves the arbiter and the converter alone
(02 R44). -/
theorem leaveConverter_unowned (h : s.ca.ownedByList k = false) :
    (leaveConverter k s).ca = s.ca ∧ (leaveConverter k s).cv = s.cv := by
  rw [leaveConverter_eq, if_neg (by simp [h])]
  exact ⟨rfl, rfl⟩

theorem endForNode_unowned (hr : reason ≠ .completed) (h : s.ca.ownedByList k = false) :
    (endForNode reason k s).ca = s.ca ∧ (endForNode reason k s).cv = s.cv := by
  have left := leaveConverter_unowned h
  have closed := closeRun_arbiter k reason s
  unfold endForNode
  split
  · rw [endRun_eq_closeRun hr, closed.1, closed.2]; exact left
  · rw [endRun_eq_closeRun hr, closed.1, closed.2]; exact left
  · unfold disarm; simp
  · exact ⟨rfl, rfl⟩
  · exact ⟨rfl, rfl⟩

theorem foldl_endForNode_unowned (hr : reason ≠ .completed) : ∀ (l : List (Fin 8)) (s : State),
    (∀ j ∈ l, s.ca.ownedByList j = false) →
    (l.foldl (fun s k => endForNode reason k s) s).ca = s.ca ∧
      (l.foldl (fun s k => endForNode reason k s) s).cv = s.cv
  | [], _, _ => ⟨rfl, rfl⟩
  | j :: l, s, h => by
    have one := endForNode_unowned hr (h j List.mem_cons_self)
    have rest := foldl_endForNode_unowned hr l (endForNode reason j s)
      fun i hi => by rw [one.1]; exact h i (List.mem_cons_of_mem _ hi)
    rw [List.foldl_cons]
    exact ⟨rest.1.trans one.1, rest.2.trans one.2⟩

/-- The owner's run ended, its conversion is abandoned (01 R20, 02 R43). -/
theorem endForNode_owner (hr : reason ≠ .completed) (active : (s.list k).state = .active)
    (inFlight : (s.list k).inFlight = true) (owned : s.ca.ownedByList k = true) :
    (endForNode reason k s).ca = s.abandon.ca ∧ (endForNode reason k s).cv = s.abandon.cv := by
  have closed := closeRun_arbiter k reason s
  unfold endForNode
  rw [active]
  dsimp only
  rw [endRun_eq_closeRun hr, closed.1, closed.2, leaveConverter_eq, if_pos (And.intro inFlight owned)]
  exact ⟨rfl, rfl⟩

/-- Where a list owns the conversion in flight, ending all the lists abandons it, and nothing else happens
to the arbiter and the converter. -/
theorem foldl_endForNode_owner (hr : reason ≠ .completed) (active : (s.list k).state = .active)
    (inFlight : (s.list k).inFlight = true) (owned : s.ca.ownedByList k = true) :
    (allLists.foldl (fun s k => endForNode reason k s) s).ca = s.abandon.ca ∧
      (allLists.foldl (fun s k => endForNode reason k s) s).cv = s.abandon.cv := by
  obtain ⟨before, after, hl, hb, ha⟩ := allLists_split k
  rw [hl, List.foldl_append, List.foldl_cons]
  have others : ∀ j, j ≠ k → s.ca.ownedByList j = false := fun j hj =>
    Bool.eq_false_iff.mpr fun o => hj (ownedByList_unique o owned)
  have first := foldl_endForNode_unowned hr before s fun j hj => others j fun e => hb (e ▸ hj)
  have same := foldl_endForNode_ne hr before s hb
  generalize before.foldl (fun s k => endForNode reason k s) s = u at first same ⊢
  have here := endForNode_owner (s := u) (k := k) hr (by rw [same]; exact active)
    (by rw [same]; exact inFlight) (by rw [first.1]; exact owned)
  have last := foldl_endForNode_unowned hr after (endForNode reason k u)
    fun j _ => by rw [here.1]; exact ownedByList_none rfl j
  rw [last.1, last.2, here.1, here.2]
  unfold State.abandon
  rw [first.1, first.2]
  exact ⟨rfl, rfl⟩

/-! ### Grants that follow -/

/-- A grant finds no claim where no list runs and no ticket waits. -/
theorem makeGrant_nothing (h : s.Still) (hq : s.ca.queue = []) : makeGrant s = s := by
  rcases makeGrant_cases s with e | ⟨-, -, x, rest, hq', -⟩ | ⟨-, -, -, j, hj, -⟩
  · exact e
  · rw [hq] at hq'; cases hq'
  · have claims := (chosenList_spec hj).1
    unfold listClaims at claims
    simp [h.not_active j] at claims

/-- A grant made where the converter is not IDLE or not free changes nothing (02 R36). -/
theorem makeGrant_busy (h : s.cv.state ≠ .idle ∨ s.ca.grant ≠ none) : makeGrant s = s := by
  rcases makeGrant_cases s with e | ⟨idle, free, -⟩ | ⟨idle, free, -⟩
  · exact e
  · exact absurd h (by simp [idle, free])
  · exact absurd h (by simp [idle, free])

/-- The oldest ticket is granted first (02 R37). -/
theorem makeGrant_ticket {x : Ticket} {rest : List Ticket} (idle : s.cv.state = .idle)
    (free : s.ca.grant = none) (hq : s.ca.queue = x :: rest) : makeGrant s = grantTicket s x rest := by
  unfold makeGrant
  rw [if_pos (by simp [idle, free]), hq]

/-- What a grant to the oldest ticket does to the arbiter and the converter rests on them and the stamp
alone. -/
theorem makeGrant_freed {u : State} {x : Ticket} {rest : List Ticket} (ca : u.ca = s.abandon.ca)
    (cv : u.cv = s.abandon.cv) (now : u.now = s.now) (waiting : s.ca.queue = x :: rest) :
    (makeGrant u).ca = (grantTicket s.abandon x rest).ca ∧
      (makeGrant u).cv = (grantTicket s.abandon x rest).cv := by
  rw [makeGrant_ticket (by rw [cv]; rfl) (by rw [ca]; rfl) (by rw [ca]; exact waiting)]
  unfold State.now at now
  unfold grantTicket State.giveConverter State.now
  simp [ca, cv, now]

end

/-! ### HALT -/

/-- A departure, written out: the lists ended, the schedule dropped, the next handle kept (11 R174). -/
theorem departRun_eq (target : NodeState) (reason : EndReason) (s : State) : departRun target reason s =
    { endAllLists reason { s with nc := { s.nc with state := target, timer := none } } with
      su := { table := [], nextHandle := s.su.nextHandle } } := by
  have only := endAllLists_only reason { s with nc := { s.nc with state := target, timer := none } }
  unfold departRun
  dsimp only
  rw [only.su]

/-- Settles O17. -/
theorem haltLeavesRun : Obligations.HaltLeavesRun := by
  refine ⟨fun r s h hb => ⟨fun standby => ?_, fun safe => ?_, fun run => ?_⟩, fun reason s hr => ?_⟩
  · rw [exec_owned rfl h (by simp [bodyLengthOk, hb])]
    simp only [owner, ownHalt]
    rw [show (s.taken .halt r).nc.state = .standby from standby]
    rfl
  · rw [exec_owned rfl h (by simp [bodyLengthOk, hb])]
    simp only [owner, ownHalt]
    rw [show (s.taken .halt r).nc.state = .safe from safe]
    rfl
  · have verdict : exec (.halt r) s = .next (concludes .halt r s (ownHalt (s.taken .halt r))) :=
      exec_owned rfl h (by simp [bodyLengthOk, hb])
    unfold ownHalt at verdict
    rw [show (s.taken .halt r).nc.state = .run from run] at verdict
    dsimp only at verdict
    rw [departRun_eq] at verdict
    intro ended
    have only : ({ s.taken .halt r with nc := { (s.taken .halt r).nc with state := .standby, timer := none } }
      : State).OnlyLists ended := endAllLists_only ..
    have lists (k : Fin 8) := list_endAllLists (reason := .nodeHalt) nofun { s.taken .halt r with
      nc := { (s.taken .halt r).nc with state := .standby, timer := none } } k
    change ∀ k, (_ → (ended.list k).state = _ ∧ (ended.list k).endRecord = _ ∧ (ended.list k).passes = _ ∧
      (ended.list k).defn = _) ∧ (_ → ended.list k = _) at lists
    change exec (.halt r) s = .next (concludes _ _ _ (.accept _ { ended with su := _ })) at verdict
    clear_value ended
    intro t
    exact ⟨verdict, only.nc, fun k => (lists k).1, fun k => (lists k).2, only.steps, only.settings, only.rs,
      only.wu, only.tcu, only.ou, only.li, only.rh, only.resetHeld, only.free, only.pending⟩
  · have other : reason ≠ .completed := by rcases hr with e | e <;> rw [e] <;> nofun
    intro t freed
    have ended : t = makeGrant (allLists.foldl (fun s k => endForNode reason k s) s) := rfl
    have still : (allLists.foldl (fun s k => endForNode reason k s) s).Still := fun k => by
      obtain ⟨u, -, -, e⟩ := foldl_endForNode reason other k s
      rw [e]; exact state_endForNode other k u
    refine ⟨by rw [ended, allLists_eq], fun k => ?_, fun ticket => ?_, fun calibrating none => ?_,
      fun k active inFlight owned => ?_⟩
    · unfold endForNode
      cases (s.list k).state with
      | armed => exact disarm_eq k reason s
      | _ => rfl
    · obtain ⟨n, hn⟩ := Option.isSome_iff_exists.mp ticket
      have kept := foldl_endForNode_unowned other allLists s fun j _ => unowned_of_inFlightTicket hn j
      have granted : s.ca.grant ≠ none := fun e => by simp [Arbiter.inFlightTicket, e] at hn
      rw [ended, makeGrant_busy (.inr (by rw [kept.1]; exact granted))]
      exact kept
    · have kept := foldl_endForNode_unowned other allLists s fun j _ => ownedByList_none none j
      rw [ended, makeGrant_busy (.inl (by rw [kept.2, calibrating]; nofun))]
      exact kept
    · have abandoned := foldl_endForNode_owner other active inFlight owned
      have stamp := (foldl_only _ (fun _ _ => endForNode_only ..) allLists s :
        s.OnlyLists (allLists.foldl (fun s k => endForNode reason k s) s)).now
      rw [ended]
      generalize allLists.foldl (fun s k => endForNode reason k s) s = u at still abandoned stamp
      refine ⟨fun empty => ?_, fun x rest waiting => ?_⟩
      · rw [makeGrant_nothing still (by rw [abandoned.1]; exact empty)]
        exact abandoned
      · have one := makeGrant_freed abandoned.1 abandoned.2 stamp waiting
        have two := makeGrant_freed (u := freed) rfl rfl rfl waiting
        exact ⟨one.1.trans two.1.symm, one.2.trans two.2.symm, by rw [one.1]; rfl⟩

/-! ### SILENCE_EXPIRY -/

/-- The safe write, line by line (06 R112). -/
theorem safeWrite_eq (s : State) : safeWrite s = { s with ou := { lines := s.ou.lines.map fun l =>
    { level := l.safe, safe := l.safe, source := .safe, stamp := s.now } } } := by
  have lines : (safeWrite s).ou.lines = s.ou.lines.map fun l =>
      { level := l.safe, safe := l.safe, source := .safe, stamp := s.now } := by
    refine Vector.ext fun i hi => ?_
    simp only [safeWrite, allFour, List.foldl_cons, List.foldl_nil, State.writeLine, State.updLine, State.line,
      State.now, Vector.getElem_set, Vector.getElem_map, Fin.getElem_fin]
    interval_cases i <;> rfl
  have others : safeWrite s = { s with ou := (safeWrite s).ou } := rfl
  rw [others, ← lines]

/-- Entering SAFE, written out from the state with the lists ended (11 R174). -/
theorem enterSafe_eq {s ended : State} (h : endAllLists .nodeSafe
    { s with nc := { s.nc with state := .safe, timer := none } } = ended) : enterSafe s = { ended with
      su := { table := [], nextHandle := s.su.nextHandle }
      ou := { lines := s.ou.lines.map fun l =>
        { level := l.safe, safe := l.safe, source := .safe, stamp := s.tcu.stamp } }
      nq := ended.nq.raise s.tcu.stamp (.safeEntered (runningMask s.se) s.su.table.length) } := by
  have only := h ▸ endAllLists_only .nodeSafe { s with nc := { s.nc with state := .safe, timer := none } }
  unfold enterSafe State.raise
  rw [departRun_eq, safeWrite_eq, h]
  unfold State.now
  dsimp only
  rw [only.ou, only.tcu]

/-- Settles O18. -/
theorem silenceEntersSafe : Obligations.SilenceEntersSafe := by
  refine fun s => ⟨fun none => ?_, fun e held timer reached => ?_⟩
  · refine congrArg Host.Outcome.next ?_
    unfold silenceExpiry State.whenDue
    rw [none]
  · have verdict : exec .silenceExpiry s = .next (enterSafe (s.advance e)) := by
      refine congrArg Host.Outcome.next ?_
      unfold silenceExpiry
      rw [timer]
      exact State.whenDue_due _ held reached
    intro ended
    have only : ({ s with tcu := { s.tcu with stamp := e }, nc := { s.nc with state := .safe, timer := none } }
      : State).OnlyLists ended := endAllLists_only ..
    have lists (k : Fin 8) := list_endAllLists (reason := .nodeSafe) nofun { s with
      tcu := { s.tcu with stamp := e }, nc := { s.nc with state := .safe, timer := none } } k
    change ∀ k, (_ → (ended.list k).state = _ ∧ (ended.list k).endRecord = _ ∧ (ended.list k).passes = _ ∧
      (ended.list k).defn = _) ∧ (_ → ended.list k = _) at lists
    rw [enterSafe_eq (s := s.advance e) (ended := ended) rfl] at verdict
    clear_value ended
    intro t
    exact ⟨verdict, only.nc, fun k => (lists k).1, fun k => (lists k).2, only.tcu, only.steps, only.settings,
      only.rs, only.wu, only.li, only.rh, only.resetHeld, only.free, only.pending⟩

end Sys2Proof.Machine
end

section
/-! Placing a ticket (02 R33 to R36, R41). -/

namespace Sys2Proof.Machine

/-- The list whose conversion gives way, from the owner in flight (02 R41). -/
theorem preemptible_eq (s : State) : preemptible s = match s.ca.grant.map Grant.owner with
    | some (.list k _) => if ((s.list k).defn.map ListDef.preemptible).getD false = true then some k else none
    | _ => none := by
  unfold preemptible
  cases s.ca.grant with
  | none => rfl
  | some g =>
    obtain ⟨owner, _, _, _⟩ := g
    cases owner with
    | list k _ => simp [State.listFlag_eq]
    | ticket _ _ _ => rfl

/-- What follows the placing of a ticket, by the owner in flight (02 R36, R41). -/
theorem afterPlacing_eq (s : State) : afterPlacing s = match s.ca.grant.map Grant.owner with
    | some (.list k _) =>
      if ((s.list k).defn.map ListDef.preemptible).getD false = true then makeGrant
        (s.abandon.updList k fun l =>
          { l with inFlight := false, preemptions := min (l.preemptions + 1) 65535 })
      else makeGrant s
    | _ => makeGrant s := by
  unfold afterPlacing
  rw [preemptible_eq]
  cases s.ca.grant.map Grant.owner with
  | none => rfl
  | some owner =>
    cases owner with
    | list k _ =>
      dsimp only
      by_cases gives : ((s.list k).defn.map ListDef.preemptible).getD false = true
      · rw [if_pos gives, if_pos gives]
        rfl
      · rw [if_neg gives, if_neg gives]
    | ticket _ _ _ => rfl

/-- The queue position, by the owner in flight (02 R35). -/
theorem queuePosition_eq (a : Arbiter) (n : Nat) : queuePosition a n =
    match a.grant.map Grant.owner with
    | some (.ticket m _ _) => if m = n then 0 else (a.queue.findIdx fun x => x.number == n) + 1
    | _ => (a.queue.findIdx fun x => x.number == n) + 1 := by
  unfold queuePosition Arbiter.inFlightTicket
  cases a.grant with
  | none => rfl
  | some g =>
    obtain ⟨owner, _, _, _⟩ := g
    cases owner with
    | list _ _ => rfl
    | ticket m _ _ => simp

/-- Settles O20. -/
theorem convertPlacesTicket : Obligations.ConvertPlacesTicket := by
  intro r s h len
  have verdict : exec (.convert r) s = .next (concludes .convert r s (ownConvert r.body (s.taken .convert r))) :=
    exec_owned rfl h (by simp [bodyLengthOk, len])
  rw [verdict]
  unfold ownConvert
  cases below 16 (byteAt r.body 0) with
  | none => rfl
  | some c =>
    cases parseOptGroup r.body 1 with
    | error d => rfl
    | ok g =>
      dsimp only
      by_cases full : 8 ≤ s.ca.queue.length
      · rw [if_pos full, if_pos (show Config.maxTickets ≤ (s.taken .convert r).ca.queue.length from full)]
        rfl
      · rw [if_neg full, if_neg (show ¬ Config.maxTickets ≤ (s.taken .convert r).ca.queue.length from full)]
        rw [queuePosition_eq, afterPlacing_eq]
        rfl

end Sys2Proof.Machine
end

section
/-! The end of a debounce and the edge it accepts (06 R101, R102, 01 R15, R24). -/

namespace Sys2Proof.Machine

/-! ### Marking the AWAIT steps that stand -/

/-- Whether a list awaits an input rests on its own record and the step memory. -/
theorem awaitsInput_congr {s t : State} {j : Fin 8} (i : Fin 4) (list : t.list j = s.list j)
    (steps : t.se.steps = s.se.steps) : awaitsInput t i j = awaitsInput s i j := by
  unfold awaitsInput
  rw [currentStep_eq, currentStep_eq, list, steps]

theorem awaitsInput_iff {s : State} {i : Fin 4} {j : Fin 8} : awaitsInput s i j = true ↔
    (s.list j).state = .active ∧ ∃ t, currentStep s j = some (.await i t) := by
  unfold awaitsInput
  rw [Bool.and_eq_true, beq_iff_eq]
  refine and_congr_right fun _ => ?_
  split
  · next i' t e =>
    rw [e, beq_iff_eq]
    exact ⟨fun h => ⟨t, h ▸ rfl⟩, fun ⟨_, h⟩ => by injection h with h; injection h⟩
  · next other => exact ⟨nofun, fun ⟨t, h⟩ => absurd h (other i t)⟩

/-- What marking does to one list. -/
theorem list_markWaiting (i : Fin 4) (s : State) (j : Fin 8) : (markWaiting i s).list j =
    if awaitsInput s i j then { s.list j with edgeWaiting := true } else s.list j := by
  have other : ∀ (t : State) (k : Fin 8), j ≠ k → State.list
      (if awaitsInput t i k then t.updList k fun l => { l with edgeWaiting := true } else t) j = t.list j := by
    intro t k ne
    split
    · exact State.list_updList_ne _ _ _ _ ne
    · rfl
  obtain ⟨before, after, split, notBefore, notAfter⟩ := allLists_split j
  unfold markWaiting
  rw [split, List.foldl_append, List.foldl_cons, list_foldl_ne other after _ notAfter]
  have list := list_foldl_ne other before s notBefore
  have steps := foldl_keeps (P := fun t => t.se.steps = s.se.steps)
    (f := fun t k => if awaitsInput t i k then t.updList k fun l => { l with edgeWaiting := true } else t)
    (fun t k h => by split <;> exact h) before s rfl
  rw [awaitsInput_congr i list steps]
  split
  · rw [State.list_updList_self, list]
  · exact list

/-- Marking changes the lists alone. -/
theorem markWaiting_eq (i : Fin 4) (s : State) :
    markWaiting i s = { s with se := { s.se with lists := (markWaiting i s).se.lists } } := by
  unfold markWaiting
  refine foldl_keeps (P := fun t => t = { s with se := { s.se with lists := t.se.lists } })
    (fun t k h => ?_) allLists s rfl
  split
  · exact congrArg (State.updList · k fun l => { l with edgeWaiting := true }) h
  · exact h

/-! ### A run that starts bears no mark -/

theorem edgeWaiting_beginStep {k : Fin 8} {s : State} (closing : Bool) (h : (s.list k).edgeWaiting = false) :
    ((beginStep closing k s).list k).edgeWaiting = false := by
  have granted (u : State) (hu : (u.list k).edgeWaiting = false) :
      ((grantUnless closing u).list k).edgeWaiting = false := by
    rcases list_grantUnless closing u k with e | ⟨-, e⟩
    · rw [e]; exact hu
    · rw [e]; exact hu
  unfold beginStep
  split
  · exact granted _ (by rw [State.list_updList_self])
  · rw [State.list_updList_self]
  · rw [State.list_updList_self]
  · exact h

theorem edgeWaiting_startRun {k : Fin 8} {s : State} (closing : Bool) (h : (s.list k).edgeWaiting = false) :
    ((startRun closing k s).list k).edgeWaiting = false :=
  edgeWaiting_beginStep closing (by rw [State.list_updList_self]; exact h)

/-! ### DEBOUNCE_END -/

theorem Direction.target_eq (d : Direction) : d.target = if d = .rising then .high else .low := by
  cases d <;> rfl

/-- Settles O32. -/
theorem debounceEnds : Obligations.DebounceEnds := by
  refine ⟨fun k s none => ?_, fun k s stamp d held context => ?_,
    fun k s => ⟨(markWaiting k s).se.lists, markWaiting_eq k s,
      fun j => ⟨fun t active atAwait => ?_, fun h => ?_⟩⟩,
    fun s => by unfold finishWaiting; rw [allLists_eq], fun k s j sound armed => ?_,
    fun k s j _ _ => ?_, fun k d stamp s => ?_⟩
  · refine congrArg Host.Outcome.next ?_
    unfold debounceEnd
    rw [none]
  · intro level ends pin reached
    refine congrArg Host.Outcome.next ?_
    have target : d.target = level := d.target_eq
    have due : (s.input k).due = some ends := by unfold CaptureInput.due; rw [context]; rfl
    unfold debounceEnd
    rw [context]
    dsimp only
    rw [target, if_pos pin, due, State.whenDue_due _ held reached]
    unfold endDebounce
    rw [target]
    rfl
  · change (markWaiting k s).list j = _
    rw [list_markWaiting, if_pos (awaitsInput_iff.mpr ⟨active, t, atAwait⟩)]
  · change (markWaiting k s).list j = _
    rw [list_markWaiting, if_neg fun awaits => ?_]
    obtain ⟨active, t, atAwait⟩ := awaitsInput_iff.mp awaits
    exact h.elim (absurd active) fun never => never t atAwait
  · refine edgeWaiting_startRun false ?_
    rw [list_markWaiting, if_neg fun awaits => by rw [(awaitsInput_iff.mp awaits).1] at armed; cases armed]
    exact sound.unmarked
  · refine edgeWaiting_startRun true ?_
    rw [list_closeRun_self]
  · exact State.raiseIf_eq ..

end Sys2Proof.Machine
end

section
/-! Option groups and step records: what is read of any bytes, and that what is sent reads back
(12 §12.3, §12.4, 01 R1, R3). -/

namespace Sys2Proof.Machine

/-! ### Reading field by field -/

/-- A reading refused by the first offending field, where there is one, and otherwise a value with the
fields sent (12 R182). -/
def ReadsAs {α : Type} (parsed : Except Nat α) (offending : Option Nat) (fields : α → Prop) : Prop :=
  (∀ n, offending = some n → parsed = .error n) ∧ (offending = none → ∃ x, parsed = .ok x ∧ fields x)

namespace ReadsAs
variable {α : Type} {parsed : Except Nat α} {offending : Option Nat} {fields : α → Prop} {n : Nat} {c c' : Prop}
  [Decidable c] [Decidable c']

theorem refused (h : c) : ReadsAs (.error n : Except Nat α) (if c then some n else offending) fields := by
  rw [if_pos h]
  exact ⟨fun m e => by cases e; rfl, nofun⟩

theorem passed (h : ¬ c) (rest : ReadsAs parsed offending fields) :
    ReadsAs parsed (if c then some n else offending) fields := by
  rwa [if_neg h]

theorem checked (h : c' ↔ c) (rest : ¬ c → ReadsAs parsed offending fields) :
    ReadsAs (if c' then .error n else parsed) (if c then some n else offending) fields := by
  by_cases bad : c
  · rw [if_pos (h.mpr bad)]
    exact refused bad
  · rw [if_neg (mt h.mp bad)]
    exact passed bad (rest bad)

theorem accepted {x : α} (h : fields x) : ReadsAs (.ok x) none fields :=
  ⟨nofun, fun _ => ⟨x, rfl, h⟩⟩

end ReadsAs

/-! ### Bytes at an offset -/

/-- A byte of a part in the middle of a body. -/
theorem byteAt_within {l : List Byte} {i : Nat} (before after : List Byte) (h : i < l.length) :
    byteAt (before ++ l ++ after) (before.length + i) = byteAt l i := by
  rw [List.append_assoc, byteAt_append_right _ _ _ (Nat.le_add_right ..), Nat.add_sub_cancel_left,
    byteAt_append_left _ _ _ h]

theorem byteAt_within_zero {l : List Byte} (before after : List Byte) (h : 0 < l.length) :
    byteAt (before ++ l ++ after) before.length = byteAt l 0 :=
  byteAt_within (i := 0) before after h

theorem byteAt_u8 {n : Nat} (h : n < 256) : byteAt (u8 n) 0 = n :=
  (BitVec.toNat_ofNat n 8).trans (Nat.mod_eq_of_lt h)

/-- A bit as a number. -/
theorem flag_testBit (n k : Nat) : flag (n.testBit k) = n / 2 ^ k % 2 := by
  rw [Nat.testBit_eq_decide_div_mod_eq]
  unfold flag
  rcases Nat.mod_two_eq_zero_or_one (n / 2 ^ k) with h | h <;> rw [h] <;> rfl

/-! ### Codes -/

theorem averagingOf_code (a : Option Averaging) : averagingOf (averagingCode a) = some a := by
  rcases a with _ | a
  · rfl
  · cases a <;> rfl

theorem averagingCode_of {n : Nat} {a : Option Averaging} (h : averagingOf n = some a) :
    averagingCode a = n := by
  unfold averagingOf at h
  split at h <;> cases h <;> rfl

theorem averagingOf_eq_none {n : Nat} : averagingOf n = none ↔ n ∉ [0, 1, 2, 4, 8, 16] := by
  unfold averagingOf
  split
  case h_7 =>
    simp only [List.mem_cons, List.not_mem_nil, or_false, not_or, true_iff]
    exact ⟨‹_›, ‹_›, ‹_›, ‹_›, ‹_›, ‹_›⟩
  all_goals decide

theorem averagingCode_lt (a : Option Averaging) : averagingCode a < 256 := by
  rcases a with _ | a
  · decide
  · cases a <;> decide

theorem modeCode_of {n : Nat} {m : Option Mode} (h : modeOf n = some m) : modeCode m = n := by
  unfold modeOf at h
  split at h <;> cases h <;> rfl

theorem modeOf_eq_none : ∀ {n : Nat}, modeOf n = none ↔ 3 ≤ n
  | 0 => by decide
  | 1 => by decide
  | 2 => by decide
  | _ + 3 => ⟨fun _ => Nat.le_add_left .., fun _ => rfl⟩

theorem checkCode_of {n : Nat} {m : Option Bool} (h : checkOf n = some m) : checkCode m = n := by
  unfold checkOf at h
  split at h <;> cases h <;> rfl

theorem checkOf_eq_none : ∀ {n : Nat}, checkOf n = none ↔ 3 ≤ n
  | 0 => by decide
  | 1 => by decide
  | 2 => by decide
  | _ + 3 => ⟨fun _ => Nat.le_add_left .., fun _ => rfl⟩

/-! ### Option groups -/

/-- The third byte of an option group reads back (12 §12.3). -/
theorem optGroupCodes_read (mode : Option Mode) (check : Option Bool) (given : Bool) :
    let codes := modeCode mode + 4 * checkCode check + 16 * flag given
    codes < 256 ∧ bitOf codes 4 = given ∧ modeOf (bitsOf codes 0 2) = some mode ∧
      checkOf (bitsOf codes 2 2) = some check := by
  rcases mode with _ | _ | _ <;> rcases check with _ | _ | _ <;> cases given <;> decide

@[simp] theorem optGroupBytes_length (g : OptGroup) : (optGroupBytes g).length = 3 := rfl

theorem byteAt_optGroupBytes_settle {g : OptGroup} (h : ∀ n, g.settle = some n → 1 ≤ n ∧ n ≤ 255) :
    byteAt (optGroupBytes g) 0 = g.settle.getD 0 := by
  refine byteAt_u8 ?_
  cases settle : g.settle with
  | none => decide
  | some n => exact Nat.lt_succ_of_le (h n settle).2

theorem byteAt_optGroupBytes_averaging (g : OptGroup) :
    byteAt (optGroupBytes g) 1 = averagingCode g.averaging := byteAt_u8 (averagingCode_lt _)

theorem byteAt_optGroupBytes_codes (g : OptGroup) : byteAt (optGroupBytes g) 2 =
    modeCode g.mode + 4 * checkCode g.check + 16 * flag g.settle.isSome :=
  byteAt_u8 (optGroupCodes_read g.mode g.check g.settle.isSome).1

/-- An option group reads back wherever its three bytes stand. -/
theorem parseOptGroup_optGroupBytes {g : OptGroup} (hg : ∀ n, g.settle = some n → 1 ≤ n ∧ n ≤ 255)
    (before after : List Byte) : parseOptGroup (before ++ optGroupBytes g ++ after) before.length = .ok g := by
  obtain ⟨settle, averaging, mode, check⟩ := g
  have settleByte := (byteAt_within_zero before after (by simp)).trans (byteAt_optGroupBytes_settle hg)
  have averagingByte := (byteAt_within before after (by simp)).trans
    (byteAt_optGroupBytes_averaging ⟨settle, averaging, mode, check⟩)
  have codesByte := (byteAt_within before after (by simp)).trans
    (byteAt_optGroupBytes_codes ⟨settle, averaging, mode, check⟩)
  obtain ⟨-, given, modeRead, checkRead⟩ := optGroupCodes_read mode check settle.isSome
  unfold parseOptGroup
  rw [settleByte, averagingByte, codesByte, given, averagingOf_code, modeRead, checkRead]
  cases settle with
  | none => rfl
  | some n =>
    have positive : (n == 0) = false := beq_false_of_ne (Nat.ne_of_gt (hg n rfl).1)
    simp [positive]

/-- Any three bytes read as an option group, field by field. -/
theorem parseOptGroup_reads (b : List Byte) (o : Nat) :
    ReadsAs (parseOptGroup b o)
      (if (byteAt b (o + 2)).testBit 4 = true ∧ byteAt b o = 0 then some (o + 1)
        else if byteAt b (o + 1) ∉ [0, 1, 2, 4, 8, 16] then some (o + 2)
        else if byteAt b (o + 2) % 4 = 3 ∨ byteAt b (o + 2) / 4 % 4 = 3 then some (o + 3)
        else none)
      fun g => g.settle = (if (byteAt b (o + 2)).testBit 4 = true then some (byteAt b o) else none) ∧
        averagingCode g.averaging = byteAt b (o + 1) ∧ modeCode g.mode = byteAt b (o + 2) % 4 ∧
        checkCode g.check = byteAt b (o + 2) / 4 % 4 := by
  have modeBits : bitsOf (byteAt b (o + 2)) 0 2 = byteAt b (o + 2) % 4 := by simp [bitsOf]
  have checkBits : bitsOf (byteAt b (o + 2)) 2 2 = byteAt b (o + 2) / 4 % 4 := rfl
  unfold parseOptGroup
  rw [modeBits, checkBits]
  refine .checked (by simp [bitOf]) fun _ => ?_
  cases averaging : averagingOf (byteAt b (o + 1)) with
  | none => exact .refused (averagingOf_eq_none.mp averaging)
  | some a =>
    refine .passed (fun bad => by rw [averagingOf_eq_none.mpr bad] at averaging; cases averaging) ?_
    cases mode : modeOf (byteAt b (o + 2) % 4) with
    | none => have := modeOf_eq_none.mp mode; exact .refused (.inl (by omega))
    | some m =>
      have modeCode := modeCode_of mode
      have modeGood : byteAt b (o + 2) % 4 ≠ 3 := fun bad => by rw [bad] at mode; cases mode
      cases check : checkOf (byteAt b (o + 2) / 4 % 4) with
      | none => have := checkOf_eq_none.mp check; exact .refused (.inr (by omega))
      | some c =>
        have checkGood : byteAt b (o + 2) / 4 % 4 ≠ 3 := fun bad => by rw [bad] at check; cases check
        exact .passed (not_or.mpr ⟨modeGood, checkGood⟩)
          (.accepted ⟨rfl, averagingCode_of averaging, modeCode, checkCode_of check⟩)

/-! ### Step records -/

/-- The kind of a step is in the two high bits of its first byte (12 §12.4). -/
theorem stepKind_eq (b : List Byte) (o : Nat) : bitsOf (byteAt b o) 6 2 = byteAt b o / 64 := by
  have := byteAt_lt b o
  exact Nat.mod_eq_of_lt (by omega)

section
variable {b : List Byte} {o : Nat}

theorem parseStep_convert (h : byteAt b o / 64 = 0) : parseStep b o = (parseOptGroup b (o + 1)).map
    fun g => .convert ⟨byteAt b o % 16, Nat.mod_lt _ (by decide)⟩ g := by
  unfold parseStep
  rw [stepKind_eq, h]
  simp [bitsOf]

theorem parseStep_wait (h : byteAt b o / 64 = 1) : parseStep b o =
    if wordAt b (o + 1) = 0 then .error (o + 2) else .ok (.wait (wordAt b (o + 1))) := by
  unfold parseStep
  rw [stepKind_eq, h]
  simp

theorem parseStep_await (h : byteAt b o / 64 = 2) : parseStep b o =
    .ok (.await ⟨byteAt b o % 4, Nat.mod_lt _ (by decide)⟩
      (if wordAt b (o + 1) = 0 then none else some (wordAt b (o + 1)))) := by
  unfold parseStep
  rw [stepKind_eq, h]
  simp [bitsOf]

theorem parseStep_unknown (h : byteAt b o / 64 = 3) : parseStep b o = .error (o + 1) := by
  unfold parseStep
  rw [stepKind_eq, h]
  rfl

theorem parseSteps_error {n d : Nat} (h : parseStep b o = .error d) : parseSteps b o (n + 1) = .error d := by
  rw [parseSteps, h]

theorem parseSteps_ok {n : Nat} {x : StepRecord} (h : parseStep b o = .ok x) :
    parseSteps b o (n + 1) = (parseSteps b (o + 4) n).map (x :: ·) := by
  rw [parseSteps, h]

end

/-- A two-byte field after one byte, in the middle of a body. -/
theorem wordAt_step {k n : Nat} (before after : List Byte) (h : n < 65536) :
    wordAt (before ++ (u8 k ++ u16 n ++ u8 0) ++ after) (before.length + 1) = n := by
  unfold wordAt
  rw [Nat.add_assoc, byteAt_within before after (show 1 < 4 by decide),
    byteAt_within before after (show 2 < 4 by decide)]
  change n / 256 % 256 * 256 + n % 256 = n
  omega

@[simp] theorem stepBytes_length (x : StepRecord) : (stepBytes x).length = 4 := by cases x <;> rfl

/-- A step record reads back wherever its four bytes stand. -/
theorem parseStep_stepBytes {x : StepRecord} (before after : List Byte)
    (h : match x with
      | .convert _ g => ∀ n, g.settle = some n → 1 ≤ n ∧ n ≤ 255
      | .wait n => 1 ≤ n ∧ n ≤ 65535
      | .await _ t => ∀ n, t = some n → 1 ≤ n ∧ n ≤ 65535) :
    parseStep (before ++ stepBytes x ++ after) before.length = .ok x := by
  cases x with
  | convert c g =>
    have kind : byteAt (before ++ stepBytes (.convert c g) ++ after) before.length = c.val :=
      (byteAt_within_zero before after (by simp)).trans (byteAt_u8 (n := c.val) (by omega))
    have group : parseOptGroup (before ++ stepBytes (.convert c g) ++ after) (before.length + 1) = .ok g := by
      have := parseOptGroup_optGroupBytes h (before ++ u8 c.val) after
      rw [List.append_assoc before] at this
      rwa [List.length_append] at this
    have channel : (⟨byteAt (before ++ stepBytes (.convert c g) ++ after) before.length % 16,
        Nat.mod_lt _ (by decide)⟩ : Fin 16) = c := Fin.ext (by
      change byteAt _ _ % 16 = c.val
      rw [kind]
      omega)
    rw [parseStep_convert (by rw [kind]; omega), group, channel]
    rfl
  | wait n =>
    have kind : byteAt (before ++ stepBytes (.wait n) ++ after) before.length = 64 :=
      byteAt_within_zero before after (by simp)
    have word : wordAt (before ++ stepBytes (.wait n) ++ after) (before.length + 1) = n :=
      wordAt_step before after (by omega)
    rw [parseStep_wait (by rw [kind]), word, if_neg (by omega)]
  | await i t =>
    have kind : byteAt (before ++ stepBytes (.await i t) ++ after) before.length = 128 + i.val :=
      (byteAt_within_zero before after (by simp)).trans (byteAt_u8 (n := 128 + i.val) (by omega))
    have word : wordAt (before ++ stepBytes (.await i t) ++ after) (before.length + 1) = t.getD 0 := by
      refine wordAt_step before after ?_
      cases t with
      | none => decide
      | some n => exact Nat.lt_succ_of_le (h n rfl).2
    have input : (⟨byteAt (before ++ stepBytes (.await i t) ++ after) before.length % 4,
        Nat.mod_lt _ (by decide)⟩ : Fin 4) = i := Fin.ext (by
      change byteAt _ _ % 4 = i.val
      rw [kind]
      omega)
    rw [parseStep_await (by rw [kind]; omega), input, word]
    cases t with
    | none => rfl
    | some n => exact congrArg (fun t => Except.ok (StepRecord.await i t)) (if_neg (Nat.ne_of_gt (h n rfl).1))

end Sys2Proof.Machine
end

section
/-! List and watch definitions: what is read of any bytes, and that what is sent reads back (12 §12.6,
01 R5, R7, 05 R79, R91). -/

namespace Sys2Proof.Machine

/-! ### Codes -/

theorem below_eq_none_iff {n b : Nat} : below n b = none ↔ n ≤ b := by
  unfold below
  split
  · next h => exact iff_of_false nofun (by omega)
  · next h => exact iff_of_true rfl (by omega)

theorem below_val (n : Nat) (k : Fin n) : below n k.val = some k := below_eq_some rfl

theorem val_of_below {n b : Nat} {k : Fin n} (h : below n b = some k) : k.val = b := by
  unfold below at h
  split at h
  · cases h; rfl
  · cases h

theorem policyOf_code (p : Policy) : policyOf p.code = some p := by cases p <;> rfl

theorem policyCode_of {n : Nat} {p : Policy} (h : policyOf n = some p) : p.code = n := by
  unfold policyOf at h
  split at h <;> cases h <;> rfl

theorem policyOf_eq_none : ∀ {n : Nat}, policyOf n = none ↔ 2 < n
  | 0 => by decide
  | 1 => by decide
  | 2 => by decide
  | _ + 3 => ⟨fun _ => Nat.le_add_left .., fun _ => rfl⟩

theorem zoneCode_of {n : Nat} {z : Zone} (h : zoneOf n = some z) : zoneCode (some z) = n := by
  unfold zoneOf at h
  split at h <;> cases h <;> rfl

theorem zoneOf_eq_none : ∀ {n : Nat}, zoneOf n = none ↔ n = 0 ∨ 3 < n
  | 0 => by decide
  | 1 => by decide
  | 2 => by decide
  | 3 => by decide
  | n + 4 => ⟨fun _ => .inr (Nat.le_add_left ..), fun _ => rfl⟩

theorem levelCode_of {n : Nat} {l : Level} (h : levelOf n = some l) : l.code = n := by
  unfold levelOf at h
  split at h <;> cases h <;> rfl

theorem levelOf_eq_none : ∀ {n : Nat}, levelOf n = none ↔ n = 0 ∨ 2 < n
  | 0 => by decide
  | 1 => by decide
  | 2 => by decide
  | n + 3 => ⟨fun _ => .inr (Nat.le_add_left ..), fun _ => rfl⟩

/-! ### Trigger sources -/

theorem sourceOf_eq_none : ∀ {type param : Nat}, sourceOf type param = none ↔ 4 < type
  | 0, _ => iff_of_false nofun (by decide)
  | 1, _ => iff_of_false nofun (by decide)
  | 2, _ => iff_of_false nofun (by decide)
  | 3, _ => iff_of_false nofun (by decide)
  | 4, _ => iff_of_false nofun (by decide)
  | _ + 5, _ => ⟨fun _ => Nat.le_add_left .., fun _ => rfl⟩

theorem sourceOf_capture (param : Nat) : sourceOf 1 param = some ((below 4 param).map .capture) := rfl

theorem sourceOf_listDone (param : Nat) : sourceOf 4 param = some ((below 8 param).map .listDone) := rfl

/-- A watch number and a zone, as a trigger parameter holds them (12 §12.6). -/
theorem sourceOf_watch (param : Nat) : sourceOf 3 param = some ((below 12 (param % 16)).bind fun w =>
    (zoneOf (param / 16 % 4)).map fun z => .watch w z) := by
  simp [sourceOf, bitsOf]

/-- The parameters out of range (01 R7). -/
theorem sourceOf_eq_some_none {type param : Nat} (h : sourceOf type param = some none) :
    type = 1 ∧ 3 < param ∨ type = 3 ∧ (11 < param % 16 ∨ param / 16 % 4 = 0) ∨ type = 4 ∧ 7 < param := by
  match type with
  | 0 => cases h
  | 1 => exact .inl ⟨rfl, below_eq_none_iff.mp (Option.map_eq_none_iff.mp (Option.some.inj h))⟩
  | 2 => cases h
  | 3 =>
    rw [sourceOf_watch] at h
    refine .inr (.inl ⟨rfl, ?_⟩)
    cases number : below 12 (param % 16) with
    | none => exact .inl (below_eq_none_iff.mp number)
    | some w =>
      rw [number] at h
      have := zoneOf_eq_none.mp (Option.map_eq_none_iff.mp (Option.some.inj h))
      omega
  | 4 => exact .inr (.inr ⟨rfl, below_eq_none_iff.mp (Option.map_eq_none_iff.mp (Option.some.inj h))⟩)
  | _ + 5 => cases h

/-- What a source that is read was sent as: in range, and in the two bytes of the source itself but for
bits that are not read. -/
theorem sourceOf_eq_some {type param : Nat} {src : TriggerSource} (h : sourceOf type param = some (some src)) :
    ¬ (type = 1 ∧ 3 < param ∨ type = 3 ∧ (11 < param % 16 ∨ param / 16 % 4 = 0) ∨ type = 4 ∧ 7 < param) ∧
    sourceBytes src = u8 type ++ u8 (if type = 0 ∨ type = 2 then 0 else if type = 3 then param % 64 else param) ∧
    ∀ k, src = .listDone k ↔ type = 4 ∧ param = k.val := by
  match type with
  | 0 => cases h; exact ⟨by omega, rfl, fun k => iff_of_false nofun (by omega)⟩
  | 1 =>
    obtain ⟨i, input, rfl⟩ := Option.map_eq_some_iff.mp (Option.some.inj h)
    have val := val_of_below input
    subst val
    exact ⟨by omega, rfl, fun k => iff_of_false nofun (by omega)⟩
  | 2 => cases h; exact ⟨by omega, rfl, fun k => iff_of_false nofun (by omega)⟩
  | 3 =>
    rw [sourceOf_watch] at h
    obtain ⟨w, number, h⟩ := Option.bind_eq_some_iff.mp (Option.some.inj h)
    obtain ⟨z, zone, rfl⟩ := Option.map_eq_some_iff.mp h
    have numberVal := val_of_below number
    have zoneVal := zoneCode_of zone
    have zoneSome : param / 16 % 4 ≠ 0 := fun e => by rw [e] at zone; cases zone
    refine ⟨by omega, ?_, fun k => iff_of_false nofun (by omega)⟩
    change u8 3 ++ u8 (w.val + 16 * zoneCode (some z)) = _
    rw [numberVal, zoneVal, show param % 16 + 16 * (param / 16 % 4) = param % 64 by omega]
    rfl
  | 4 =>
    obtain ⟨m, list, rfl⟩ := Option.map_eq_some_iff.mp (Option.some.inj h)
    have val := val_of_below list
    subst val
    refine ⟨by omega, rfl, fun k => ?_⟩
    rw [TriggerSource.listDone.injEq, Fin.ext_iff]
    exact ⟨fun e => ⟨rfl, e⟩, fun e => e.2⟩
  | _ + 5 => cases h

/-- A source reads back from its two bytes. -/
theorem sourceBytes_read (src : TriggerSource) : ∃ type param, type < 256 ∧ param < 256 ∧
    sourceBytes src = u8 type ++ u8 param ∧ sourceOf type param = some (some src) := by
  cases src with
  | host => exact ⟨0, 0, by decide, by decide, rfl, rfl⟩
  | capture i => exact ⟨1, i.val, by decide, by omega, rfl, by rw [sourceOf_capture, below_val]; rfl⟩
  | schedule => exact ⟨2, 0, by decide, by decide, rfl, rfl⟩
  | watch w z =>
    have code : 1 ≤ zoneCode (some z) ∧ zoneCode (some z) ≤ 3 ∧ zoneOf (zoneCode (some z)) = some z := by
      cases z <;> decide
    obtain ⟨low, high, zone⟩ := code
    refine ⟨3, w.val + 16 * zoneCode (some z), by decide, by omega, rfl, ?_⟩
    rw [sourceOf_watch, show (w.val + 16 * zoneCode (some z)) % 16 = w.val by omega,
      show (w.val + 16 * zoneCode (some z)) / 16 % 4 = zoneCode (some z) by omega, below_val, zone]
    rfl
  | listDone m => exact ⟨4, m.val, by decide, by omega, rfl, by rw [sourceOf_listDone, below_val]; rfl⟩

/-! ### List definitions -/

theorem periodOk_iff {p : Nat} : periodOk p = true ↔ p = 0 ∨ (100 ≤ p ∧ p ≤ 1000000000) := by
  unfold periodOk
  rw [Bool.or_eq_true, beq_iff_eq, Bool.and_eq_true, decide_eq_true_eq, decide_eq_true_eq]
  rfl

/-- The flags byte of a list definition reads back. -/
theorem listFlags_read : ∀ a b c d e f : Bool,
    let flags := flag a + 2 * flag b + 4 * flag c + 8 * flag d + 16 * flag e + 32 * flag f
    flags < 256 ∧ bitOf flags 0 = a ∧ bitOf flags 1 = b ∧ bitOf flags 2 = c ∧ bitOf flags 3 = d ∧
      bitOf flags 4 = e ∧ bitOf flags 5 = f := by
  decide

/-- Any 13 bytes read as a list definition, field by field (01 R7). -/
theorem parseListDef_reads (b : List Byte) (k : Fin 8) :
    ReadsAs (parseListDef b k)
      (if 127 < byteAt b 1 then some 2
        else if byteAt b 2 = 0 ∨ 128 < byteAt b 1 + byteAt b 2 then some 3
        else if 4 < byteAt b 3 then some 4
        else if byteAt b 3 = 1 ∧ 3 < byteAt b 4 ∨
          byteAt b 3 = 3 ∧ (11 < byteAt b 4 % 16 ∨ byteAt b 4 / 16 % 4 = 0) ∨
          byteAt b 3 = 4 ∧ (7 < byteAt b 4 ∨ byteAt b 4 = k.val) then some 5
        else if 1 ≤ longAt b 7 ∧ longAt b 7 ≤ 99 ∨ 1000000000 < longAt b 7 then some 8
        else if 2 < byteAt b 11 then some 12
        else if 3 < byteAt b 12 then some 13
        else none)
      fun d => d.firstStep = byteAt b 1 ∧ d.stepCount = byteAt b 2 ∧
        sourceBytes d.source = u8 (byteAt b 3) ++ u8 (if byteAt b 3 = 0 ∨ byteAt b 3 = 2 then 0
          else if byteAt b 3 = 3 then byteAt b 4 % 64 else byteAt b 4) ∧
        d.passCount = wordAt b 5 ∧ d.passPeriod = longAt b 7 ∧ d.policy.code = byteAt b 11 ∧
        d.level.val = byteAt b 12 ∧ d.preemptible = (byteAt b 13).testBit 0 ∧
        d.toFifo = (byteAt b 13).testBit 1 ∧ d.stopOnFull = (byteAt b 13).testBit 2 ∧
        d.rearm = (byteAt b 13).testBit 3 ∧ d.notifyPass = (byteAt b 13).testBit 4 ∧
        d.notifyEnd = (byteAt b 13).testBit 5 := by
  unfold parseListDef
  refine .checked Iff.rfl fun _ => .checked ?_ fun _ => ?_
  · simp only [Bool.or_eq_true, beq_iff_eq, decide_eq_true_eq]
    omega
  cases source : sourceOf (byteAt b 3) (byteAt b 4) with
  | none => exact .refused (sourceOf_eq_none.mp source)
  | some known =>
    refine .passed (fun unknown => by rw [sourceOf_eq_none.mpr unknown] at source; cases source) ?_
    cases known with
    | none => have := sourceOf_eq_some_none source; exact .refused (by omega)
    | some src =>
      obtain ⟨inRange, bytes, listDone⟩ := sourceOf_eq_some source
      refine .checked ?_ fun _ => .checked ?_ fun _ => ?_
      · rw [beq_iff_eq, listDone k]
        omega
      · rw [Bool.not_eq_true', Bool.eq_false_iff, Ne, periodOk_iff]
        omega
      cases policy : policyOf (byteAt b 11) with
      | none => exact .refused (policyOf_eq_none.mp policy)
      | some p =>
        refine .passed (fun bad => by rw [policyOf_eq_none.mpr bad] at policy; cases policy) ?_
        cases level : below 4 (byteAt b 12) with
        | none => exact .refused (below_eq_none_iff.mp level)
        | some v =>
          refine .passed (fun bad => by rw [below_eq_none_iff.mpr bad] at level; cases level) (.accepted ?_)
          exact ⟨rfl, rfl, bytes, rfl, rfl, policyCode_of policy, val_of_below level, rfl, rfl, rfl, rfl, rfl, rfl⟩

/-- A list definition that the rules allow reads back (01 R5, R7). -/
theorem parseListDef_listDefBytes {d : ListDef} {k : Fin 8} (count : 1 ≤ d.stepCount) (first : d.firstStep ≤ 127)
    (last : d.firstStep + d.stepCount ≤ 128) (source : d.source ≠ .listDone k) (passes : d.passCount ≤ 65535)
    (period : d.passPeriod = 0 ∨ (100 ≤ d.passPeriod ∧ d.passPeriod ≤ 1000000000)) :
    parseListDef (u8 k.val ++ listDefBytes d) k = .ok d := by
  obtain ⟨first', count', src, passes', period', policy, level, a1, a2, a3, a4, a5, a6⟩ := d
  obtain ⟨type, param, typeByte, paramByte, bytes, read⟩ := sourceBytes_read src
  obtain ⟨flagsByte, f0, f1, f2, f3, f4, f5⟩ := listFlags_read a1 a2 a3 a4 a5 a6
  dsimp only at count first last source passes period
  unfold listDefBytes
  dsimp only
  rw [bytes]
  generalize hb : u8 k.val ++ _ = b
  have firstAt : byteAt b 1 = first' := by subst hb; exact Nat.mod_eq_of_lt (by omega)
  have countAt : byteAt b 2 = count' := by subst hb; exact Nat.mod_eq_of_lt (by omega)
  have typeAt : byteAt b 3 = type := by subst hb; exact Nat.mod_eq_of_lt typeByte
  have paramAt : byteAt b 4 = param := by subst hb; exact Nat.mod_eq_of_lt paramByte
  have passesAt : wordAt b 5 = passes' := by
    subst hb
    change passes' / 256 % 256 * 256 + passes' % 256 = passes'
    omega
  have periodAt : longAt b 7 = period' := by
    subst hb
    change (period' / 65536 / 256 % 256 * 256 + period' / 65536 % 256) * 65536 +
      (period' / 256 % 256 * 256 + period' % 256) = period'
    omega
  have policyAt : byteAt b 11 = policy.code := by subst hb; cases policy <;> rfl
  have levelAt : byteAt b 12 = level.val := by subst hb; exact Nat.mod_eq_of_lt (by omega)
  have flagsAt : byteAt b 13 = flag a1 + 2 * flag a2 + 4 * flag a3 + 8 * flag a4 + 16 * flag a5 +
      32 * flag a6 := by subst hb; exact Nat.mod_eq_of_lt flagsByte
  unfold parseListDef
  dsimp only
  rw [firstAt, countAt, typeAt, paramAt, passesAt, periodAt, policyAt, levelAt, flagsAt, f0, f1, f2, f3, f4, f5,
    read, policyOf_code, below_val]
  dsimp only
  rw [if_neg (by omega), if_neg (by simp; omega), if_neg (by simpa using source),
    if_neg (by simpa using periodOk_iff.mpr period)]

/-! ### Watch definitions -/

/-- What of an action record byte is read: nothing of an absent record, and of a present one without an
output action only its notice bit (05 R91). -/
def actionBits (a : Nat) : Nat :=
  if a.testBit 0 = false then 0 else if a / 32 % 4 = 0 then a % 4 else a % 128

/-- An action record that the rules forbid (05 R91). -/
abbrev ActionBad (a : Nat) : Prop := a.testBit 0 = true ∧ a / 32 % 4 ≠ 0 ∧ (a / 32 % 4 = 3 ∨ 3 < a / 4 % 8)

/-- An action record is read, or is one that the rules forbid. -/
theorem parseWatchAction_reads (a : Nat) :
    (parseWatchAction a = none → ActionBad a) ∧
    ∀ x, parseWatchAction a = some x → ¬ ActionBad a ∧ watchActionByte x = actionBits a := by
  have present : a.testBit 0 = true ↔ a % 2 = 1 := by simp [Nat.testBit_eq_decide_div_mod_eq]
  have notice : flag (bitOf a 1) = a / 2 % 2 := flag_testBit a 1
  have code : bitsOf a 5 2 = a / 32 % 4 := rfl
  have line : bitsOf a 2 3 = a / 4 % 8 := rfl
  unfold parseWatchAction ActionBad actionBits
  cases bit : a.testBit 0 with
  | false => simp [bitOf, bit, watchActionByte]
  | true =>
    have odd := present.mp bit
    rw [show (!bitOf a 0) = false from by simp [bitOf, bit], code, line]
    simp only [Bool.false_eq_true, if_false, Bool.true_eq_false, true_and]
    split
    · next none =>
      refine ⟨nofun, fun x hx => ?_⟩
      cases hx
      refine ⟨by omega, ?_⟩
      rw [if_pos none]
      simp only [watchActionByte, notice]
      omega
    · next nonzero =>
      have output : a / 32 % 4 ≠ 0 := nonzero
      rw [if_neg output]
      split
      · next l v hl hv =>
        have lineVal := val_of_below hl
        have levelVal := levelCode_of hv
        have levelGood : a / 32 % 4 ≠ 3 := fun e => by rw [e] at hv; cases hv
        refine ⟨nofun, fun x hx => ?_⟩
        cases hx
        refine ⟨by omega, ?_⟩
        simp only [watchActionByte, notice, lineVal, levelVal]
        omega
      · next bad =>
        refine ⟨fun _ => ⟨output, ?_⟩, nofun⟩
        cases hl : below 4 (a / 4 % 8) with
        | none => exact .inr (below_eq_none_iff.mp hl)
        | some l => cases hv : levelOf (a / 32 % 4) with
          | none => have := levelOf_eq_none.mp hv; exact .inl (by omega)
          | some v => exact (bad l v hl hv).elim

/-- An action record reads back. -/
theorem parseWatchAction_byte (x : Option WatchAction) :
    watchActionByte x < 256 ∧ parseWatchAction (watchActionByte x) = some x := by
  rcases x with _ | ⟨notify, _ | ⟨line, level⟩⟩
  · decide
  · cases notify <;> decide
  · cases level <;> revert notify line <;> decide

/-- Any 11 bytes read as a watch definition, field by field (05 R91). -/
theorem parseWatchDef_reads (b : List Byte) :
    ReadsAs (parseWatchDef b)
      (if 15 < byteAt b 1 then some 2
        else if 4095 < wordAt b 2 then some 3
        else if 4095 < wordAt b 4 ∨ wordAt b 4 ≤ wordAt b 2 then some 5
        else if (wordAt b 4 - wordAt b 2) / 2 < wordAt b 6 then some 7
        else if byteAt b 8 = 0 ∨ 15 < byteAt b 8 then some 9
        else if ActionBad (byteAt b 9) then some 10
        else if ActionBad (byteAt b 10) then some 11
        else if ActionBad (byteAt b 11) then some 12
        else none)
      fun d => d.channel.val = byteAt b 1 ∧ d.low = wordAt b 2 ∧ d.high = wordAt b 4 ∧
        d.hysteresis = wordAt b 6 ∧ d.confirm = byteAt b 8 ∧
        watchActionByte d.onBelow = actionBits (byteAt b 9) ∧
        watchActionByte d.onInside = actionBits (byteAt b 10) ∧
        watchActionByte d.onAbove = actionBits (byteAt b 11) := by
  obtain ⟨belowBad, belowRead⟩ := parseWatchAction_reads (byteAt b 9)
  obtain ⟨insideBad, insideRead⟩ := parseWatchAction_reads (byteAt b 10)
  obtain ⟨aboveBad, aboveRead⟩ := parseWatchAction_reads (byteAt b 11)
  unfold parseWatchDef
  cases channel : below 16 (byteAt b 1) with
  | none => exact .refused (below_eq_none_iff.mp channel)
  | some c =>
    refine .passed (fun bad => by rw [below_eq_none_iff.mpr bad] at channel; cases channel) ?_
    refine .checked Iff.rfl fun _ => .checked (by simp) fun _ => .checked Iff.rfl fun _ =>
      .checked (by simp) fun _ => ?_
    cases onBelow : parseWatchAction (byteAt b 9) with
    | none => exact .refused (belowBad onBelow)
    | some x =>
      obtain ⟨belowGood, belowBits⟩ := belowRead x onBelow
      refine .passed belowGood ?_
      cases onInside : parseWatchAction (byteAt b 10) with
      | none => exact .refused (insideBad onInside)
      | some y =>
        obtain ⟨insideGood, insideBits⟩ := insideRead y onInside
        refine .passed insideGood ?_
        cases onAbove : parseWatchAction (byteAt b 11) with
        | none => exact .refused (aboveBad onAbove)
        | some z =>
          obtain ⟨aboveGood, aboveBits⟩ := aboveRead z onAbove
          exact .passed aboveGood (.accepted
            ⟨val_of_below channel, rfl, rfl, rfl, rfl, belowBits, insideBits, aboveBits⟩)

/-- A watch definition that the rules allow reads back (05 R79). -/
theorem parseWatchDef_watchDefBytes {d : WatchDef} {w : Fin 12} (order : d.low < d.high) (high : d.high ≤ 4095)
    (narrow : d.hysteresis ≤ (d.high - d.low) / 2) (positive : 1 ≤ d.confirm) (confirm : d.confirm ≤ 15) :
    parseWatchDef (u8 w.val ++ watchDefBytes d) = .ok d := by
  obtain ⟨channel, low', high', hysteresis, confirm', onBelow, onInside, onAbove⟩ := d
  obtain ⟨belowByte, belowRead⟩ := parseWatchAction_byte onBelow
  obtain ⟨insideByte, insideRead⟩ := parseWatchAction_byte onInside
  obtain ⟨aboveByte, aboveRead⟩ := parseWatchAction_byte onAbove
  dsimp only at order high narrow positive confirm
  generalize hb : u8 w.val ++ _ = b
  have word (n : Nat) (h : n ≤ 4095) : n / 256 % 256 * 256 + n % 256 = n := by omega
  have channelAt : byteAt b 1 = channel.val := by subst hb; exact Nat.mod_eq_of_lt (by omega)
  have lowAt : wordAt b 2 = low' := by subst hb; exact word low' (by omega)
  have highAt : wordAt b 4 = high' := by subst hb; exact word high' high
  have hysteresisAt : wordAt b 6 = hysteresis := by subst hb; exact word hysteresis (by omega)
  have confirmAt : byteAt b 8 = confirm' := by subst hb; exact Nat.mod_eq_of_lt (a := confirm') (by omega)
  have belowAt : byteAt b 9 = watchActionByte onBelow := by subst hb; exact Nat.mod_eq_of_lt belowByte
  have insideAt : byteAt b 10 = watchActionByte onInside := by subst hb; exact Nat.mod_eq_of_lt insideByte
  have aboveAt : byteAt b 11 = watchActionByte onAbove := by subst hb; exact Nat.mod_eq_of_lt aboveByte
  unfold parseWatchDef
  dsimp only
  rw [channelAt, lowAt, highAt, hysteresisAt, confirmAt, belowAt, insideAt, aboveAt, belowRead, insideRead,
    aboveRead, below_val]
  dsimp only
  rw [if_neg (by omega), if_neg (by simp; omega), if_neg (by omega), if_neg (by simp; omega)]

/-- Settles O52. -/
theorem definitionsReadBack : Obligations.DefinitionsReadBack := by
  refine ⟨fun x before after => parseStep_stepBytes before after,
    fun g before after h => parseOptGroup_optGroupBytes h before after,
    fun d k count first last source passes period => parseListDef_listDefBytes count first last source passes period,
    fun d w order high narrow positive confirm => parseWatchDef_watchDefBytes order high narrow positive confirm,
    parseOptGroup_reads,
    fun b o => ⟨fun convert => ⟨fun n h => ?_, fun g h => ⟨⟨_, Nat.mod_lt _ (by decide)⟩, rfl, ?_⟩⟩,
      parseStep_wait, fun await => ⟨⟨_, Nat.mod_lt _ (by decide)⟩, rfl, parseStep_await await⟩,
      parseStep_unknown, rfl, fun n => ⟨fun d => parseSteps_error, fun x h => ⟨fun d rest => ?_, fun xs rest => ?_⟩⟩⟩,
    parseListDef_reads, parseWatchDef_reads⟩
  · rw [parseStep_convert convert, h]
    rfl
  · rw [parseStep_convert convert, h]
    rfl
  · rw [parseSteps_ok h, rest]
    rfl
  · rw [parseSteps_ok h, rest]
    rfl

end Sys2Proof.Machine
end

section
/-! Numbers given out: the first free one in the cycle (02 R34, 07 R116). A search as long as the cycle
looks at each of its numbers once, so it finds a free one while fewer are used than the cycle holds. -/

namespace Sys2Proof.Machine

variable {top n : Nat}

/-- The number `i` places after one in the cycle. -/
theorem nextNumber_iterate (low : 1 ≤ n) (high : n ≤ top) (i : Nat) :
    (nextNumber top)^[i] n = (n - 1 + i) % top + 1 := by
  induction i with
  | zero => rw [Function.iterate_zero_apply, Nat.add_zero, Nat.mod_eq_of_lt (by omega)]; omega
  | succ i ih =>
    have place : (n - 1 + i) % top < top := Nat.mod_lt _ (by omega)
    rw [Function.iterate_succ_apply', ih, ← Nat.add_assoc, ← Nat.mod_add_mod (n - 1 + i) top 1]
    generalize (n - 1 + i) % top = r at place ⊢
    unfold nextNumber
    split
    · next last => rw [show r + 1 = top by omega, Nat.mod_self]
    · next within => rw [Nat.mod_eq_of_lt (by omega)]

/-- From a number of the cycle, as many places as the cycle holds are all different. -/
theorem nextNumber_iterate_inj (low : 1 ≤ n) (high : n ≤ top) {i j : Nat} (hi : i < top) (hj : j < top)
    (same : (nextNumber top)^[i] n = (nextNumber top)^[j] n) : i = j := by
  rw [nextNumber_iterate low high, nextNumber_iterate low high] at same
  have congruent : n - 1 + i ≡ n - 1 + j [MOD top] := Nat.add_right_cancel same
  exact (Nat.ModEq.add_left_cancel' _ congruent).eq_of_lt_of_lt hi hj

/-- So they are from any number: one outside the cycle is followed by numbers of the cycle. -/
theorem nextNumber_iterate_inj_of_pos (positive : 1 ≤ top) {i j : Nat} (hi : i < top) (hj : j < top)
    (same : (nextNumber top)^[i] n = (nextNumber top)^[j] n) : i = j := by
  by_cases inside : 1 ≤ n ∧ n ≤ top
  · exact nextNumber_iterate_inj inside.1 inside.2 hi hj same
  · obtain ⟨low, high⟩ := nextNumber_mem (n := n) positive
    have left : ∀ m, (nextNumber top)^[m + 1] n ≠ n := fun m back => by
      rw [Function.iterate_succ_apply'] at back
      exact inside (back ▸ nextNumber_mem positive)
    cases i with
    | zero => cases j with
      | zero => rfl
      | succ j => exact absurd same.symm (left j)
    | succ i => cases j with
      | zero => exact absurd same (left i)
      | succ j =>
        rw [Function.iterate_succ_apply, Function.iterate_succ_apply] at same
        exact congrArg (· + 1) (nextNumber_iterate_inj low high (by omega) (by omega) same)

/-- A search passes over used numbers, and ends at one that is not used or when its fuel does. -/
theorem firstFree_spec (used : Nat → Bool) (top : Nat) : ∀ fuel n : Nat, ∃ j ≤ fuel,
    firstFree used top fuel n = (nextNumber top)^[j] n ∧
    (∀ i < j, used ((nextNumber top)^[i] n) = true) ∧
    (used ((nextNumber top)^[j] n) = false ∨ j = fuel) := by
  intro fuel
  induction fuel with
  | zero => exact fun n => ⟨0, Nat.le_refl 0, rfl, nofun, .inr rfl⟩
  | succ fuel ih =>
    intro n
    unfold firstFree
    split
    · next first =>
      obtain ⟨j, within, found, passed, ended⟩ := ih (nextNumber top n)
      refine ⟨j + 1, by omega, found, fun i hi => ?_, ended.imp_right (congrArg (· + 1))⟩
      cases i with
      | zero => exact first
      | succ i => exact passed i (by omega)
    · next free => exact ⟨0, Nat.zero_le _, rfl, nofun, .inl (by simpa using free)⟩

/-- Where fewer numbers are used than the cycle holds, the search ends at the first free one. -/
theorem firstFree_free {used : Nat → Bool} {inUse : List Nat} (listed : ∀ m, used m = true → m ∈ inUse)
    (room : inUse.length < top) (n : Nat) : ∃ j < top,
    firstFree used top top n = (nextNumber top)^[j] n ∧ used (firstFree used top top n) = false ∧
    ∀ i < j, used ((nextNumber top)^[i] n) = true := by
  obtain ⟨j, -, found, passed, ended⟩ := firstFree_spec used top top n
  have short : j < top := by
    by_contra long
    have distinct : ((List.range top).map fun i => (nextNumber top)^[i] n).Nodup :=
      List.nodup_range.map_on fun i hi k hk => nextNumber_iterate_inj_of_pos (by omega)
        (List.mem_range.mp hi) (List.mem_range.mp hk)
    have among : (List.range top).map (fun i => (nextNumber top)^[i] n) ⊆ inUse := fun m hm => by
      obtain ⟨i, hi, rfl⟩ := List.mem_map.mp hm
      exact listed _ (passed i (by have := List.mem_range.mp hi; omega))
    have := (List.subperm_of_subset distinct among).length_le
    rw [List.length_map, List.length_range] at this
    omega
  exact ⟨j, short, found, by rw [found]; exact ended.resolve_right (by omega), passed⟩

/-- The first free number, by its place in the cycle. -/
theorem firstFree_place {used : Nat → Bool} {inUse : List Nat} (listed : ∀ m, used m = true → m ∈ inUse)
    (room : inUse.length < top) (low : 1 ≤ n) (high : n ≤ top) : ∃ j, j < top ∧
    firstFree used top top n = (n - 1 + j) % top + 1 ∧ used (firstFree used top top n) = false ∧
    ∀ i, i < j → used ((n - 1 + i) % top + 1) = true := by
  obtain ⟨j, short, found, free, passed⟩ := firstFree_free listed room n
  exact ⟨j, short, by rw [found, nextNumber_iterate low high], free,
    fun i hi => by rw [← nextNumber_iterate low high]; exact passed i hi⟩

/-- The ticket numbers in use: the one in flight and the waiting ones (02 R33). -/
def Arbiter.numbers (a : Arbiter) : List Nat := a.inFlightTicket.toList ++ a.queue.map Ticket.number

theorem Arbiter.numberUsed_iff (a : Arbiter) (m : Nat) : a.numberUsed m = true ↔ m ∈ a.numbers := by
  simp [Arbiter.numberUsed, Arbiter.numbers, or_comm]

theorem Arbiter.numbers_length (a : Arbiter) : a.numbers.length ≤ a.queue.length + 1 := by
  unfold Arbiter.numbers
  cases a.inFlightTicket <;> simp

/-- With a queue that is not over its capacity the number given to a ticket is in use by no other. -/
theorem Arbiter.freeNumber_unused {a : Arbiter} (room : a.queue.length ≤ 8) : a.freeNumber ∉ a.numbers := by
  have count := a.numbers_length
  obtain ⟨-, -, -, free, -⟩ := firstFree_free (used := a.numberUsed) (top := Config.topTicket)
    (fun m => (a.numberUsed_iff m).mp) (by unfold Config.topTicket; omega) a.nextTicket
  exact fun mem => Bool.eq_false_iff.mp free ((a.numberUsed_iff _).mpr mem)

theorem ScheduleUnit.handleUsed_iff (u : ScheduleUnit) (m : Nat) :
    u.handleUsed m = true ↔ m ∈ u.table.map ScheduleEntry.handle := by
  simp [ScheduleUnit.handleUsed]

/-- Settles O21: at most 9 of 127 ticket numbers and 24 of 255 handles are in use. -/
theorem numbersGivenAreFirstFree : Obligations.NumbersGivenAreFirstFree := by
  refine ⟨fun a low high room => ?_, fun u low high room => ?_⟩
  · have count := a.numbers_length
    exact firstFree_place (top := 127) (fun m => (a.numberUsed_iff m).mp) (by omega) low high
  · exact firstFree_place (top := 255) (fun m => (u.handleUsed_iff m).mp)
      (by rw [List.length_map]; omega) low high

end Sys2Proof.Machine
end

section
/-! The arbiter's requests and grants: CANCEL_CONVERT, whose turn it is, and what a grant does (02 R36 to
R38, R45). -/

namespace Sys2Proof.Machine

variable {s : State}

/-! ### CANCEL_CONVERT -/

/-- CANCEL_CONVERT, with its checks as the rule says them (02 R45). -/
theorem ownCancelConvert_eq (b : List Byte) (s : State) : ownCancelConvert b s =
    if byteAt b 0 = 0 ∨ 127 < byteAt b 0 then .refuse .field 1
    else if ∃ t ∈ s.ca.queue, t.number = byteAt b 0 then .accept (u8 (byteAt b 0) ++ [1])
      { s with ca := { s.ca with queue := s.ca.queue.filter fun t => t.number != byteAt b 0 } }
    else if s.ca.inFlightTicket = some (byteAt b 0) then
      .accept (u8 (byteAt b 0) ++ [2]) (makeGrant s.abandon)
    else .accept (u8 (byteAt b 0) ++ [3]) s := by
  unfold ownCancelConvert Config.topTicket
  simp only [Bool.or_eq_true, beq_iff_eq, decide_eq_true_eq, List.any_eq_true]
  rfl

/-- Settles O22. -/
theorem cancelConvertOutcomes : Obligations.CancelConvertOutcomes := by
  intro r s h len
  have verdict : exec (.cancelConvert r) s =
      .next (concludes .cancelConvert r s (ownCancelConvert r.body (s.taken .cancelConvert r))) :=
    exec_owned rfl h (by simp [bodyLengthOk, len])
  rw [verdict, ownCancelConvert_eq]
  simp only [apply_ite (concludes .cancelConvert r s)]
  rfl

/-! ### Whose turn it is -/

/-- In the turn order after `p`, list `k` stands `k - p - 1` places from the front (02 R37). -/
theorem turnOrder_place (p k : Fin 8) : (turnOrder p)[(k - p - 1).val]? = some k := by
  revert p k; decide

theorem turnOrder_getElem (p : Fin 8) (i : Nat) (h : i < (turnOrder p).length) :
    ((turnOrder p)[i] - p - 1).val = i := by
  have all : ∀ (p : Fin 8) (i : Fin 8), ((turnOrder p)[i.val]'i.isLt - p - 1).val = i.val := by decide
  exact all p ⟨i, h⟩

/-- A list that claims at a level, with none that claims there before it in turn, has the turn there. -/
theorem turnAt_eq_some {level : Fin 4} {k : Fin 8} (claims : listClaims s k = true)
    (priority : listLevel s k = some level) (first : ∀ j, listClaims s j = true → listLevel s j = some level →
      (k - s.ca.pointers[level] - 1).val ≤ (j - s.ca.pointers[level] - 1).val) :
    turnAt s level = some k := by
  obtain ⟨within, here⟩ := List.getElem?_eq_some_iff.mp (turnOrder_place s.ca.pointers[level] k)
  unfold turnAt
  refine List.find?_eq_some_iff_getElem.mpr ⟨by simp [claims, priority], _, within, here, fun i before => ?_⟩
  have place := turnOrder_getElem s.ca.pointers[level] i (by omega)
  by_contra earlier
  simp only [Bool.not_eq_true', Bool.and_eq_true, beq_iff_eq, Bool.not_eq_false] at earlier
  have := first _ earlier.1 earlier.2
  omega

/-- The levels are looked at from the highest down. -/
theorem levels_split (level : Fin 4) :
    ∃ before after, ([3, 2, 1, 0] : List (Fin 4)) = before ++ level :: after ∧ ∀ x ∈ before, level < x :=
  match level with
  | 0 => ⟨[3, 2, 1], [], rfl, by decide⟩
  | 1 => ⟨[3, 2], [0], rfl, by decide⟩
  | 2 => ⟨[3], [1, 0], rfl, by decide⟩
  | 3 => ⟨[], [2, 1, 0], rfl, by decide⟩

/-- The list that has the turn at a level, with no claim at a higher one, is chosen (02 R37). -/
theorem chosenList_eq_some {level : Fin 4} {k : Fin 8} (turn : turnAt s level = some k)
    (highest : ∀ j other, listClaims s j = true → listLevel s j = some other → other ≤ level) :
    chosenList s = some k := by
  obtain ⟨before, after, split, higher⟩ := levels_split level
  unfold chosenList
  refine List.findSome?_eq_some_iff.mpr ⟨before, level, after, split, turn, fun x hx => ?_⟩
  by_contra claimed
  obtain ⟨j, hj⟩ := Option.ne_none_iff_exists'.mp claimed
  exact absurd (highest j x (turnAt_spec hj).1 (turnAt_spec hj).2) (not_le.mpr (higher x hx))

/-! ### Grants -/

/-- With no ticket waiting a grant goes to the list chosen (02 R37). -/
theorem makeGrant_chosen {k : Fin 8} (idle : s.cv.state = .idle) (free : s.ca.grant = none)
    (noTicket : s.ca.queue = []) (chosen : chosenList s = some k) : makeGrant s = grantList s k := by
  unfold makeGrant
  rw [if_pos (by simp [idle, free]), noTicket, chosen]

/-- With no ticket waiting and no list chosen there is no grant (02 R36). -/
theorem makeGrant_unclaimed (noTicket : s.ca.queue = []) (nobody : chosenList s = none) : makeGrant s = s := by
  unfold makeGrant
  rw [noTicket, nobody]
  exact ite_self s

/-- No list is chosen where none claims. -/
theorem chosenList_eq_none (h : ∀ k, listClaims s k = false) : chosenList s = none := by
  by_contra claimed
  obtain ⟨k, hk⟩ := Option.ne_none_iff_exists'.mp claimed
  exact absurd (chosenList_spec hk).1 (by simp [h k])

/-- A list with a level that stands at a CONVERT step is granted with that step's options (02 R38). -/
theorem grantList_eq {k : Fin 8} {level : Fin 4} {c : Fin 16} {g : OptGroup}
    (hstep : currentStep s k = some (.convert c g)) (priority : listLevel s k = some level) :
    grantList s k = (({ s with ca := { s.ca with pointers := s.ca.pointers.set level k } }.updList k
      fun l => { l with inFlight := true }).giveConverter (.list k (s.list k).stepIndex) c g) := by
  unfold grantList
  rw [hstep, priority]

/-- Settles O23. -/
theorem grantRule : Obligations.GrantRule := by
  intro s
  refine ⟨fun busy => makeGrant_busy (busy.imp_right Option.isSome_iff_ne_none.mp), fun idle free =>
    ⟨fun t rest waiting => makeGrant_ticket idle free waiting, fun noTicket noClaim => ?_,
      fun noTicket k level c g claims priority hstep first => ?_⟩⟩
  · exact makeGrant_unclaimed noTicket (chosenList_eq_none noClaim)
  · have turn := turnAt_eq_some claims priority fun j hj hl => (first j level hj hl).2 rfl
    have chosen := chosenList_eq_some turn fun j other hj hl => (first j other hj hl).1
    rw [makeGrant_chosen idle free noTicket chosen]
    exact grantList_eq hstep priority

end Sys2Proof.Machine
end

section
/-! The end of a sample and the completion of a conversion (02 R39, 03 R55 to R60). -/

namespace Sys2Proof.Machine

theorem sampleCode_eq (m : Mode) (level : BitVec 12) :
    sampleCode m level = if m = .standard then level.toNat else level.toNat / 4 * 4 := by cases m <;> rfl

theorem maxCode_eq (m : Mode) : maxCode m = if m = .standard then 4095 else 4092 := by cases m <;> rfl

theorem sampleTime_eq (m : Mode) : sampleTime m = if m = .standard then 8 else 3 := by cases m <;> rfl

/-- OPEN, reading by reading (03 R58). -/
theorem openFlag_eq (c : Context) : openFlag c = (c.options.check && c.charged.any (fun n => decide (3968 ≤ n))
    && c.discharged.any (fun n => decide (n ≤ 127))) := by
  unfold openFlag
  cases c.options.check <;> cases c.charged <;> cases c.discharged <;> simp

/-- A completion of an owned conversion (02 R39). -/
theorem complete_eq {s : State} {g : Grant} (c : Context) (owned : s.ca.grant = some g) : complete c s =
    let x := s.rs.number (composeRecord c g.owner.source)
    let stored := storeRecord x (ownerToFifo s g.owner) s.abandon
    makeGrant (recordToOwner g.owner x stored.2 (evaluateAll x stored.1)) := by
  unfold complete
  rw [owned]
  rfl

/-- Settles O25. -/
theorem sampleEnds : Obligations.SampleEnds := by
  intro s level
  refine ⟨fun other => congrArg Host.Outcome.next ?_, fun c g running sampling reached owned => ?_⟩
  · unfold sampleEnd
    split
    · next c sampling => exact absurd sampling (other c)
    · rfl
  · have ended : exec (.sampleEnd level) s = .next (endSample c level (s.advance c.phaseEnd)) := by
      refine congrArg Host.Outcome.next ?_
      unfold sampleEnd Converter.due
      rw [sampling]
      exact State.whenDue_due _ running reached
    intro code top advanced sum high low
    have added : addSample c level =
        { c with sum := sum, samples := c.samples + 1, highSeen := high, lowSeen := low } := by
      unfold addSample
      rw [sampleCode_eq, maxCode_eq]
    rw [ended]
    unfold endSample
    rw [added]
    refine ⟨fun more => ?_, fun last => ?_⟩
    · rw [if_pos more, sampleTime_eq]
      rfl
    · rw [if_neg (Nat.not_lt.mpr last), complete_eq (s := s.advance c.phaseEnd) (g := g) _ owned]
      unfold composeRecord recordFlags
      rw [openFlag_eq]
      cases g.owner with
      | list k step =>
        simp only [ownerToFifo, State.listFlag_eq]
        rfl
      | ticket n toFifo notify =>
        cases notify <;> rfl

end Sys2Proof.Machine
end

section
/-! What the Scan Engine and the arbiter do in the course of an event, said once: they change a list's
record, raise a notice, abandon the conversion in flight and make a grant, and nothing else. A predicate of
states that these four keep is kept by every run, trigger, record and preemption. -/

namespace Sys2Proof.Machine

/-- A predicate of states that the four primitives of the Scan Engine and the arbiter keep. -/
structure KeptByRuns (P : State → Prop) : Prop where
  updList : ∀ s k f, P s → P (s.updList k f)
  raise : ∀ s b, P s → P (s.raise b)
  abandon : ∀ s, P s → P s.abandon
  grant : ∀ s, P s → P (makeGrant s)

namespace KeptByRuns

variable {P : State → Prop} {s t : State} {k : Fin 8} {closing : Bool}

/-! ### Steps and runs -/

theorem raiseIf (h : KeptByRuns P) (hs : P s) (c : Bool) (b : NoticeBody) : P (s.raiseIf c b) := by
  cases c
  · exact hs
  · exact h.raise s b hs

theorem grantUnless (h : KeptByRuns P) (hs : P s) : P (grantUnless closing s) := by
  cases closing
  · exact h.grant s hs
  · exact hs

theorem beginStep (h : KeptByRuns P) (hs : P s) : P (beginStep closing k s) := by
  unfold Machine.beginStep
  split
  · exact h.grantUnless (h.updList _ _ _ hs)
  · exact h.updList _ _ _ hs
  · exact h.updList _ _ _ hs
  · exact hs

theorem startRun (h : KeptByRuns P) (hs : P s) : P (startRun closing k s) :=
  h.beginStep (h.updList _ _ _ hs)

theorem leaveConverter (h : KeptByRuns P) (hs : P s) : P (leaveConverter k s) := by
  unfold Machine.leaveConverter State.abandonList
  split
  · split
    · exact h.abandon _ (h.updList _ _ _ hs)
    · exact h.updList _ _ _ hs
  · exact hs

theorem closeRun {reason : EndReason} (h : KeptByRuns P) (hs : P s) : P (closeRun k reason s) :=
  h.raiseIf (h.updList _ _ _ (h.leaveConverter hs)) _ _

/-! ### Triggers -/

theorem retrigger {p : Policy} (h : KeptByRuns P) (hs : P s) : P (retrigger closing k p s) := by
  unfold Machine.retrigger
  split
  · exact h.updList _ _ _ hs
  · exact h.updList _ _ _ hs
  · exact h.grantUnless (h.startRun (h.closeRun hs))

theorem takeTrigger {src : TriggerSource} (h : KeptByRuns P) (hs : P s) : P (takeTrigger closing src k s) := by
  unfold Machine.takeTrigger
  split
  · exact hs
  · split
    · split
      · exact h.startRun hs
      · exact h.retrigger hs
      · exact h.retrigger hs
      · exact hs
      · exact hs
    · exact hs

theorem deliver {src : TriggerSource} (h : KeptByRuns P) (hs : P s) : P (deliver closing src s) :=
  foldl_keeps (P := P) (fun _ _ ht => h.takeTrigger ht) allLists s hs

/-! ### The end of a run, of a pass and of a step -/

theorem chain (h : KeptByRuns P) (hs : P s) : P (chain closing k s) := by
  have delivered := h.deliver (closing := closing) (src := .listDone k) hs
  unfold Machine.chain
  dsimp only
  split
  · exact h.startRun (h.updList _ _ _ delivered)
  · exact delivered

theorem endRun {reason : EndReason} (h : KeptByRuns P) (hs : P s) : P (endRun closing k reason s) := by
  unfold Machine.endRun
  dsimp only
  split
  · exact h.chain (h.closeRun hs)
  · exact h.closeRun hs

theorem countPass (d : ListDef) (h : KeptByRuns P) (hs : P s) : P (countPass d k s) :=
  h.raiseIf (h.updList _ _ _ hs) _ _

theorem nextPass (h : KeptByRuns P) (hs : P s) : P (nextPass closing k s) := h.beginStep (h.updList _ _ _ hs)

theorem endPass {d : ListDef} (h : KeptByRuns P) (hs : P s) : P (endPass closing d k s) := by
  have counted := h.countPass (k := k) d hs
  unfold Machine.endPass restOrOverrun
  dsimp only
  split
  · exact h.endRun counted
  · split
    · exact h.endRun counted
    · split
      · exact h.nextPass counted
      · split
        · exact h.updList _ _ _ counted
        · exact h.nextPass (h.raiseIf (h.updList _ _ _ counted) _ _)

theorem finishStep (h : KeptByRuns P) (hs : P s) : P (finishStep closing k s) := by
  unfold Machine.finishStep
  split
  · exact hs
  · dsimp only
    split
    · exact h.beginStep (h.updList _ _ _ hs)
    · exact h.endPass (h.updList _ _ _ hs)

/-! ### Records, preemption and edges -/

theorem recordToList {dropped : Bool} (h : KeptByRuns P) (hs : P s) : P (recordToList k dropped s) := by
  unfold Machine.recordToList endOnDrop
  split
  · have took := h.updList s k (fun l => { l with inFlight := false }) hs
    dsimp only
    split
    · exact took
    · split
      · refine h.endRun ?_
        split
        · exact h.updList _ _ _ took
        · exact h.countPass _ (h.updList _ _ _ took)
      · exact h.finishStep took
  · exact hs

theorem recordToOwner {o : Owner} {x : Record} {d : Disposition} (h : KeptByRuns P) (hs : P s) :
    P (recordToOwner o x d s) := by
  unfold Machine.recordToOwner
  split
  · exact h.recordToList hs
  · exact h.raiseIf hs _ _

theorem afterPlacing (h : KeptByRuns P) (hs : P s) : P (afterPlacing s) := by
  unfold Machine.afterPlacing
  split
  · exact h.grant _ (h.updList _ _ _ (h.abandon s hs))
  · exact h.grant s hs

theorem markWaiting {input : Fin 4} (h : KeptByRuns P) (hs : P s) : P (markWaiting input s) := by
  refine foldl_keeps (P := P) (fun t k ht => ?_) allLists s hs
  split
  · exact h.updList _ _ _ ht
  · exact ht

theorem finishWaiting (h : KeptByRuns P) (hs : P s) : P (finishWaiting s) := by
  refine foldl_keeps (P := P) (fun t k ht => ?_) allLists s hs
  split
  · exact h.finishStep ht
  · exact ht

/-- An edge keeps what its log entry keeps. -/
theorem acceptEdge {k : Fin 4} {d : Direction} {stamp : Stamp} (h : KeptByRuns P)
    (logged : P (logEntry (.edge k d stamp) s)) : P (acceptEdge k d stamp s) :=
  h.raiseIf (h.finishWaiting (h.deliver (h.markWaiting logged))) _ _

/-! ### The node leaving RUN, and the requests of the Scan Engine -/

theorem disarm {reason : EndReason} (h : KeptByRuns P) (hs : P s) : P (disarm k reason s) :=
  h.raiseIf (h.updList _ _ _ hs) _ _

theorem endAllLists {reason : EndReason} (h : KeptByRuns P) (hs : P s) : P (endAllLists reason s) := by
  refine h.grant _ (foldl_keeps (P := P) (fun t k ht => ?_) allLists s hs)
  unfold endForNode
  split
  · exact h.endRun ht
  · exact h.endRun ht
  · exact h.disarm ht
  · exact ht
  · exact ht

theorem ownStartList {b body : List Byte} (h : KeptByRuns P) (hs : P s)
    (e : ownStartList b s = .accept body t) : P t := by
  have replied : ∀ {k n} {u : State}, P u → startReply k n u = .accept body t → P t :=
    fun hu e => by cases e; exact hu
  unfold Machine.ownStartList at e
  split at e
  · cases e
  · split at e
    · cases e
    · split at e
      · cases e
      · cases e
      · split at e
        · exact replied (h.startRun hs) e
        · exact replied (h.updList _ _ _ hs) e
      · exact replied hs e
      · split at e
        · exact replied (h.retrigger hs) e
        · cases e
      · split at e
        · exact replied (h.retrigger hs) e
        · cases e

theorem stopNow {body : List Byte} (h : KeptByRuns P) (hs : P s) (e : stopNow k s = .accept body t) : P t := by
  unfold Machine.stopNow stopReply at e
  split at e <;> cases e
  · exact h.grant _ (h.endRun hs)
  · exact h.grant _ (h.endRun hs)
  · exact h.disarm hs
  · exact hs
  · exact hs

theorem ownStopList {b body : List Byte} (h : KeptByRuns P) (hs : P s)
    (e : ownStopList b s = .accept body t) : P t := by
  unfold Machine.ownStopList at e
  split at e
  · cases e
  · exact h.stopNow hs e
  · unfold stopFinish at e
    split at e
    · cases e; exact h.updList _ _ _ hs
    all_goals exact h.stopNow hs e
  · cases e

end KeptByRuns

end Sys2Proof.Machine
end

section
/-! The bounds of the stores, the grant record, the numbers given out and the watches, from one state to a
later one: each of the invariants that holds before holds after. -/

namespace Sys2Proof.Machine

/-- What holds of `s` holds of `t`: each store's bound (02 R33, 04 R69, 06 R103, 07 R125), the ranges of the
next numbers (02 R30, 07 R114), the ticket numbers all different (02 R33), the converter working exactly
while the grant record is not NONE (02 R31), and the watches within their ranges (05 R79, R80). -/
structure State.KeepsBounds (s t : State) : Prop where
  fifo : s.rs.fifo.length ≤ 384 → t.rs.fifo.length ≤ 384
  log : s.tcu.log.length ≤ 32 → t.tcu.log.length ≤ 32
  schedule : s.su.table.length ≤ 24 → t.su.table.length ≤ 24
  handle : 1 ≤ s.su.nextHandle ∧ s.su.nextHandle ≤ 255 → 1 ≤ t.su.nextHandle ∧ t.su.nextHandle ≤ 255
  waiting : s.ca.queue.length ≤ 8 → t.ca.queue.length ≤ 8
  ticket : 1 ≤ s.ca.nextTicket ∧ s.ca.nextTicket ≤ 127 → 1 ≤ t.ca.nextTicket ∧ t.ca.nextTicket ≤ 127
  differ : s.ca.queue.length ≤ 8 → s.ca.numbers.Nodup → t.ca.numbers.Nodup
  grant : s.GrantMatchesConverter → t.GrantMatchesConverter
  watches : s.WatchesSound → t.WatchesSound

namespace State.KeepsBounds

variable {s t u : State}

theorem refl (s : State) : s.KeepsBounds s := ⟨id, id, id, id, id, id, fun _ => id, id, id⟩

theorem trans (h : s.KeepsBounds t) (g : t.KeepsBounds u) : s.KeepsBounds u where
  fifo := g.fifo ∘ h.fifo
  log := g.log ∘ h.log
  schedule := g.schedule ∘ h.schedule
  handle := g.handle ∘ h.handle
  waiting := g.waiting ∘ h.waiting
  ticket := g.ticket ∘ h.ticket
  differ w d := g.differ (h.waiting w) (h.differ w d)
  grant := g.grant ∘ h.grant
  watches := g.watches ∘ h.watches

/-- Where the stores, the arbiter, the converter's state, the schedule and the watches are the same. -/
theorem of_same (hca : t.ca = s.ca) (hcv : t.cv.state = s.cv.state) (hrs : t.rs.fifo = s.rs.fifo)
    (hwu : t.wu = s.wu) (htcu : t.tcu.log = s.tcu.log) (hsu : t.su = s.su) : s.KeepsBounds t where
  fifo h := by rwa [hrs]
  log h := by rwa [htcu]
  schedule h := by rwa [hsu]
  handle h := by rwa [hsu]
  waiting h := by rwa [hca]
  ticket h := by rwa [hca]
  differ _ h := by rwa [hca]
  grant h := by unfold GrantMatchesConverter; rw [hca, hcv]; exact h
  watches h w e he := h w e (by unfold State.watch at *; rwa [hwu] at he)

end State.KeepsBounds

open State (KeepsBounds)

section
variable {s t : State}

/-! ### Grants -/

theorem startConversion_working (now : Stamp) (c : Fin 16) (x : Options) :
    (startConversion now c x).context.isSome = true := by
  unfold startConversion; dsimp only; split <;> rfl

/-- With the grant record NONE no ticket is in flight. -/
theorem numbers_of_free {a : Arbiter} (free : a.grant = none) : a.numbers = a.queue.map Ticket.number := by
  simp [Arbiter.numbers, Arbiter.inFlightTicket, free]

/-- A conversion given up gives back its number. -/
theorem abandon_keepsBounds (s : State) : s.KeepsBounds s.abandon :=
  { KeepsBounds.refl s with
    differ := fun _ h => by
      rw [numbers_of_free (a := s.abandon.ca) rfl]
      exact h.sublist (List.sublist_append_right ..)
    grant := fun _ => rfl }

/-- The granted ticket's number stays in use: it goes from the queue into the grant record (02 R38). -/
theorem grantTicket_keepsBounds {x : Ticket} {rest : List Ticket} (free : s.ca.grant = none)
    (hq : s.ca.queue = x :: rest) : s.KeepsBounds (grantTicket s x rest) :=
  { KeepsBounds.refl s with
    waiting := fun h => by
      rw [hq, List.length_cons] at h
      exact Nat.le_of_succ_le h
    differ := fun _ h => by
      rw [numbers_of_free free, hq] at h
      exact h
    grant := fun _ => (startConversion_working ..).symm }

theorem grantList_keepsBounds {k : Fin 8} (free : s.ca.grant = none) : s.KeepsBounds (grantList s k) := by
  unfold grantList
  split
  · exact
      { KeepsBounds.refl s with
        differ := fun _ h => by
          rw [numbers_of_free free] at h
          exact h
        grant := fun _ => (startConversion_working ..).symm }
  · exact .refl s

theorem makeGrant_keepsBounds (s : State) : s.KeepsBounds (makeGrant s) := by
  rcases makeGrant_cases s with e | ⟨-, free, x, rest, hq, e⟩ | ⟨-, free, -, k, -, e⟩ <;> rw [e]
  · exact .refl s
  · exact grantTicket_keepsBounds free hq
  · exact grantList_keepsBounds free

/-- So every run of the Scan Engine keeps the bounds. -/
theorem keepsBounds_runs (s : State) : KeptByRuns s.KeepsBounds where
  updList _ _ _ h := h.trans (.of_same rfl rfl rfl rfl rfl rfl)
  raise _ _ h := h.trans (.of_same rfl rfl rfl rfl rfl rfl)
  abandon t h := h.trans (abandon_keepsBounds t)
  grant t h := h.trans (makeGrant_keepsBounds t)

/-- Operations that each keep the bounds keep them one after another. -/
theorem foldl_keepsBounds {α : Type} {f : State → α → State} (hf : ∀ (s : State) a, s.KeepsBounds (f s a))
    (l : List α) (s : State) : s.KeepsBounds (l.foldl f s) :=
  foldl_keeps (P := s.KeepsBounds) (fun t a h => h.trans (hf t a)) l s (.refl s)

theorem State.KeepsBounds.raiseIf (h : s.KeepsBounds t) (c : Bool) (b : NoticeBody) :
    s.KeepsBounds (t.raiseIf c b) := (keepsBounds_runs s).raiseIf h c b

/-! ### The stores -/

/-- An entry finds room in the log, or is dropped (06 R103). -/
theorem logEntry_keepsBounds (e : LogEntry) (s : State) : s.KeepsBounds (logEntry e s) := by
  unfold logEntry
  split
  · next room =>
    refine { KeepsBounds.refl s with log := fun _ => ?_ }
    show (s.tcu.log ++ [e]).length ≤ 32
    rw [List.length_append, List.length_singleton]
    exact of_decide_eq_true (p := s.tcu.log.length < 32) room
  · refine KeepsBounds.raiseIf ?_ _ _
    exact .of_same rfl rfl rfl rfl rfl rfl

theorem logEntry_cv (e : LogEntry) (s : State) : (logEntry e s).cv = s.cv := by
  unfold logEntry
  split
  · rfl
  · exact State.raiseIf_cv ..

/-- A record finds room in the FIFO, or is dropped (04 R69). -/
theorem offer_keepsBounds (x : Record) (s : State) : s.KeepsBounds (offer x s).1 := by
  unfold offer
  split
  · next room =>
    have short : s.rs.fifo.length < 384 := room
    refine KeepsBounds.raiseIf ?_ _ _
    refine { KeepsBounds.refl s with fifo := fun _ => ?_ }
    show (s.rs.fifo ++ [x]).length ≤ 384
    rw [List.length_append, List.length_singleton]
    exact short
  · refine KeepsBounds.raiseIf ?_ _ _
    exact .of_same rfl rfl rfl rfl rfl rfl

theorem storeRecord_keepsBounds (x : Record) (toFifo : Bool) (s : State) :
    s.KeepsBounds (storeRecord x toFifo s).1 := by
  have placed : s.KeepsBounds { s with rs := s.rs.place x } := .of_same rfl rfl rfl rfl rfl rfl
  unfold storeRecord
  cases toFifo
  · exact placed
  · exact placed.trans (offer_keepsBounds ..)

/-- A schedule table of no more entries. -/
theorem setTable_keepsBounds {l : List ScheduleEntry} (h : l.length ≤ s.su.table.length) :
    s.KeepsBounds (s.setTable l) := { KeepsBounds.refl s with schedule := h.trans }

theorem insertEntry_length (now : Stamp) (e : ScheduleEntry) (l : List ScheduleEntry) :
    (insertEntry now e l).length = l.length + 1 := by
  unfold insertEntry
  dsimp only
  rw [List.length_append, List.length_cons, ← Nat.add_assoc, ← List.length_append,
    List.takeWhile_append_dropWhile]

/-- An entry placed where there is room (07 R118). -/
theorem placeEntry_keepsBounds (e : ScheduleEntry) (room : s.su.table.length < 24) :
    s.KeepsBounds (placeEntry e s) :=
  { KeepsBounds.refl s with
    schedule := fun _ => by
      show (insertEntry s.now e s.su.table).length ≤ 24
      rw [insertEntry_length]
      exact room
    handle := fun _ => nextNumber_mem (by decide) }

/-- A ticket placed where there is room gets a number that no other has (02 R34). -/
theorem placeTicket_keepsBounds (c : Fin 16) (g : OptGroup) (toFifo notify : Bool)
    (room : s.ca.queue.length < 8) : s.KeepsBounds (placeTicket c g toFifo notify s) :=
  { KeepsBounds.refl s with
    waiting := fun _ => by
      show (s.ca.queue ++ [_]).length ≤ 8
      rw [List.length_append, List.length_singleton]
      exact room
    ticket := fun _ => nextNumber_mem (by decide)
    differ := fun _ h => by
      have same : (placeTicket c g toFifo notify s).ca.numbers = s.ca.numbers ++ [s.ca.freeNumber] := by
        unfold Arbiter.numbers placeTicket Arbiter.inFlightTicket
        rw [List.map_append, ← List.append_assoc]
        rfl
      rw [same]
      exact List.nodup_append.mpr ⟨h, List.nodup_singleton _, fun m hm n hn e =>
        Arbiter.freeNumber_unused (Nat.le_of_lt room) (List.mem_singleton.mp hn ▸ e ▸ hm)⟩ }

/-- Tickets taken out of the queue (02 R45). -/
theorem cancelTicket_keepsBounds (p : Ticket → Bool) :
    s.KeepsBounds { s with ca := { s.ca with queue := s.ca.queue.filter p } } :=
  { KeepsBounds.refl s with
    waiting := (List.length_filter_le ..).trans
    differ := fun _ h => h.sublist ((List.filter_sublist.map _).append_left _) }

/-! ### The watches -/

theorem setWatch_keepsBounds {w : Fin 12} {x : Option WatchEntry}
    (sound : s.WatchesSound → ∀ e, x = some e → e.Sound) : s.KeepsBounds (s.setWatch w x) :=
  { KeepsBounds.refl s with
    watches := fun h v e he => by
      by_cases same : v = w
      · subst same
        rw [State.watch_setWatch_self] at he
        exact sound h e he
      · rw [State.watch_setWatch_ne s w v x same] at he
        exact h v e he }

theorem watchOutput_keepsBounds (w : Fin 12) (a : Option WatchAction) (s : State) :
    s.KeepsBounds (watchOutput w a s) := by
  unfold watchOutput
  split
  · split
    · exact .of_same rfl rfl rfl rfl rfl rfl
    · exact .refl s
  · exact .refl s

theorem zoneChanged_keepsBounds (w : Fin 12) (d : WatchDef) (old : Option Zone) (new : Zone) (r : Record)
    (s : State) : s.KeepsBounds (zoneChanged w d old new r s) := by
  unfold zoneChanged
  split
  · exact (keepsBounds_runs s).raise _ _ (.refl s)
  · exact (keepsBounds_runs s).deliver (((KeepsBounds.refl s).raiseIf _ _).trans (watchOutput_keepsBounds ..))

theorem evaluate_keepsBounds (r : Record) (s : State) (w : Fin 12) : s.KeepsBounds (evaluate r s w) := by
  unfold evaluate
  split
  · exact .refl s
  · next e he =>
    have settled : s.KeepsBounds (s.setWatch w (some e.settle)) :=
      setWatch_keepsBounds fun h x hx => Option.some.inj hx ▸ (h w e he).settle
    have confirmed : s.KeepsBounds (s.setWatch w (some
        (confirmZone e (candidate e.defn e.zone r.value) r.seq).1)) :=
      setWatch_keepsBounds fun h x hx => Option.some.inj hx ▸ (h w e he).confirmZone ..
    split
    · exact .refl s
    · split
      · exact settled
      · dsimp only
        split
        · exact confirmed.trans (zoneChanged_keepsBounds ..)
        · exact confirmed

theorem evaluateAll_keepsBounds (r : Record) (s : State) : s.KeepsBounds (evaluateAll r s) :=
  foldl_keepsBounds (evaluate_keepsBounds r) allWatches s

/-- A reading that is accepted has no offending field (12 R182). -/
theorem ReadsAs.of_ok {α : Type} {x : α} {offending : Option Nat} {fields : α → Prop}
    (h : ReadsAs (.ok x) offending fields) : offending = none ∧ fields x := by
  obtain ⟨refused, read⟩ := h
  have inOrder : offending = none := by
    cases offending with
    | none => rfl
    | some n => exact nomatch refused n rfl
  obtain ⟨y, same, hy⟩ := read inOrder
  cases same
  exact ⟨inOrder, hy⟩

/-- A definition that is accepted keeps the ranges of R79 (05 R91). -/
theorem parseWatchDef_sound {b : List Byte} {d : WatchDef} (h : parseWatchDef b = .ok d) :
    (WatchEntry.fresh d).Sound := by
  have reads := parseWatchDef_reads b
  rw [h] at reads
  obtain ⟨checked, -, low, high, hysteresis, confirm, -⟩ := reads.of_ok
  simp only [ite_eq_iff, reduceCtorEq, and_false, false_or] at checked
  obtain ⟨-, -, limits, narrow, count, -⟩ := checked
  exact WatchEntry.fresh_sound (by omega) (by omega) (by omega)

end

end Sys2Proof.Machine
end

section
/-! Every step keeps the bounds: the owners, the events and the resets. -/

namespace Sys2Proof.Machine

open State (KeepsBounds)

section
variable {s t : State}

/-! ### The owners -/

/-- The bounds are kept, and the converter is left in its state. -/
structure State.SparesConverter (s t : State) : Prop where
  bounds : s.KeepsBounds t
  state : t.cv.state = s.cv.state

theorem State.SparesConverter.refl (s : State) : s.SparesConverter s := ⟨.refl s, rfl⟩

theorem foldl_sparesConverter {α : Type} {f : State → α → State}
    (hf : ∀ (s : State) a, s.SparesConverter (f s a)) (l : List α) (s : State) : s.SparesConverter (l.foldl f s) :=
  foldl_keeps (P := s.SparesConverter)
    (fun t a h => ⟨h.bounds.trans (hf t a).bounds, (hf t a).state.trans h.state⟩) l s (.refl s)

/-- What the owner of a request that does not reach the lists accepts keeps the bounds, and leaves the
converter at its work. -/
theorem owner_sparesConverter {k : Kind} {b body : List Byte} (hk : reachesLists k = false)
    (h : owner k b s = .accept body t) : s.SparesConverter t := by
  have same : ∀ t : State, t.ca = s.ca → t.cv.state = s.cv.state → t.rs.fifo = s.rs.fifo → t.wu = s.wu →
      t.tcu.log = s.tcu.log → t.su = s.su → s.SparesConverter t :=
    fun _ hca hcv hrs hwu htcu hsu => ⟨.of_same hca hcv hrs hwu htcu hsu, hcv⟩
  cases k with
  | identify | echo | status | readStamp | outputStatus | fifoStatus => cases h; exact .refl s
  | mark => cases h; exact ⟨logEntry_keepsBounds .., by rw [logEntry_cv]⟩
  | readLatest => cases h; exact same _ rfl rfl rfl rfl rfl rfl
  | clearFifo => cases h; exact ⟨{ KeepsBounds.refl s with fifo := fun _ => Nat.zero_le _ }, rfl⟩
  | setChannel =>
    simp only [owner, ownSetChannel] at h
    split at h <;> cases h
    exact same _ rfl rfl rfl rfl rfl rfl
  | readSteps =>
    simp only [owner, ownReadSteps] at h
    split at h <;> cases h
    exact .refl s
  | listStatus =>
    simp only [owner, ownListStatus] at h
    split at h <;> cases h
    exact .refl s
  | readFifo =>
    simp only [owner, ownReadFifo] at h
    split at h <;> cases h
    exact ⟨{ KeepsBounds.refl s with fifo := (List.drop_sublist ..).length_le.trans }, rfl⟩
  | setFifoLevel =>
    simp only [owner, ownSetFifoLevel] at h
    split at h <;> cases h
    exact same _ rfl rfl rfl rfl rfl rfl
  | setWatch =>
    simp only [owner, ownSetWatch] at h
    split at h
    · cases h
    · split at h <;> cases h
      next read =>
      exact ⟨setWatch_keepsBounds fun _ x hx => Option.some.inj hx ▸ parseWatchDef_sound read, rfl⟩
  | clearWatch =>
    simp only [owner, ownClearWatch] at h
    split at h <;> cases h
    exact ⟨setWatch_keepsBounds fun _ _ => nofun, rfl⟩
  | watchStatus =>
    simp only [owner, ownWatchStatus] at h
    split at h <;> cases h
    exact .refl s
  | setCapture =>
    simp only [owner, ownSetCapture] at h
    split at h <;> cases h
    refine foldl_sparesConverter (fun t k => ?_) _ _
    split
    · exact ⟨.of_same rfl rfl rfl rfl rfl rfl, rfl⟩
    · exact .refl t
  | readCaptures =>
    simp only [owner, ownReadCaptures] at h
    split at h <;> cases h
    exact ⟨{ KeepsBounds.refl s with log := (List.drop_sublist ..).length_le.trans }, rfl⟩
  | scheduleStatus =>
    simp only [owner, ownScheduleStatus] at h
    split at h <;> cases h
    exact .refl s
  | setOutput =>
    simp only [owner, ownSetOutput] at h
    split at h
    · cases h
    · split at h <;> cases h
      refine foldl_sparesConverter (fun t k => ?_) _ _
      split
      · exact ⟨.of_same rfl rfl rfl rfl rfl rfl, rfl⟩
      · exact .refl t
  | setSafeLevels =>
    simp only [owner, ownSetSafeLevels] at h
    split at h <;> cases h
    refine foldl_sparesConverter (fun t k => ?_) _ _
    split
    · split <;> exact ⟨.of_same rfl rfl rfl rfl rfl rfl, rfl⟩
    · exact .refl t
  | poll =>
    simp only [owner, ownPoll] at h
    split at h <;> cases h
    exact same _ rfl rfl rfl rfl rfl rfl
  | _ => cases hk

theorem restartTimer_keepsBounds (s : State) : s.KeepsBounds (restartTimer s) := by
  unfold restartTimer
  split
  · exact .of_same rfl rfl rfl rfl rfl rfl
  · exact .refl s

/-- A departure drops the schedule's entries (11 R174). -/
theorem departRun_keepsBounds (target : NodeState) (reason : EndReason) (s : State) :
    s.KeepsBounds (departRun target reason s) := by
  have left : s.KeepsBounds { s with nc := { s.nc with state := target, timer := none } } :=
    .of_same rfl rfl rfl rfl rfl rfl
  have ended := (keepsBounds_runs s).endAllLists (reason := reason) left
  unfold departRun
  dsimp only
  generalize endAllLists reason _ = u at ended ⊢
  exact ended.trans (setTable_keepsBounds (l := []) (Nat.zero_le _))

theorem ownConvert_keepsBounds {b body : List Byte} (h : ownConvert b s = .accept body t) : s.KeepsBounds t := by
  unfold ownConvert at h
  split at h
  · cases h
  · split at h
    · cases h
    · split at h <;> cases h
      next room =>
      refine (keepsBounds_runs s).afterPlacing ?_
      exact placeTicket_keepsBounds _ _ _ _ (Nat.lt_of_not_le room)

theorem ownCancelConvert_keepsBounds {b body : List Byte} (h : ownCancelConvert b s = .accept body t) :
    s.KeepsBounds t := by
  have runs := keepsBounds_runs s
  rw [ownCancelConvert_eq] at h
  split at h
  · cases h
  · split at h
    · cases h; exact cancelTicket_keepsBounds _
    · split at h <;> cases h
      · exact runs.grant _ (runs.abandon s (.refl s))
      · exact .refl s

theorem ownSchedule_keepsBounds {b body : List Byte} (h : ownSchedule b s = .accept body t) :
    s.KeepsBounds t := by
  unfold ownSchedule at h
  split at h
  · cases h
  · split at h
    · cases h
    · split at h
      · cases h
      · next room =>
        split at h <;> cases h
        exact placeEntry_keepsBounds _ (Nat.lt_of_not_le room)

/-- What an owner accepts keeps the bounds. -/
theorem owner_keepsBounds {k : Kind} {b body : List Byte} (h : owner k b s = .accept body t) :
    s.KeepsBounds t := by
  have runs := keepsBounds_runs s
  have control : ∀ x, s.KeepsBounds { s with nc := x } := fun _ => .of_same rfl rfl rfl rfl rfl rfl
  cases hk : reachesLists k with
  | false => exact (owner_sparesConverter hk h).bounds
  | true =>
    cases k with
    | go =>
      simp only [owner, ownGo] at h
      split at h <;> cases h
      · exact .refl s
      · exact (control _).trans (restartTimer_keepsBounds _)
    | halt =>
      simp only [owner, ownHalt] at h
      split at h <;> cases h
      · exact departRun_keepsBounds ..
      · exact control _
      · exact .refl s
    | restart => cases h; exact control _
    | setSilence =>
      simp only [owner, ownSetSilence] at h
      split at h <;> cases h
      split
      · exact control _
      · exact (control _).trans (restartTimer_keepsBounds _)
    | convert => exact ownConvert_keepsBounds h
    | cancelConvert => exact ownCancelConvert_keepsBounds h
    | writeSteps =>
      simp only [owner, ownWriteSteps] at h
      split at h
      · cases h
      · split at h
        · cases h
        · split at h <;> cases h
          exact .of_same rfl rfl rfl rfl rfl rfl
    | defineList =>
      simp only [owner, ownDefineList] at h
      split at h
      · cases h
      · split at h
        · cases h
        · split at h <;> cases h
          exact runs.updList _ _ _ (.refl s)
    | startList => exact runs.ownStartList (.refl s) h
    | stopList => exact runs.ownStopList (.refl s) h
    | clearList =>
      simp only [owner, ownClearList] at h
      split at h
      · cases h
      · split at h <;> cases h
        exact runs.updList _ _ _ (.refl s)
    | schedule => exact ownSchedule_keepsBounds h
    | cancelAction =>
      simp only [owner, ownCancelAction] at h
      split at h
      · cases h
      · split at h <;> cases h
        exact setTable_keepsBounds (List.length_filter_le ..)
    | _ => cases hk

/-! ### The events -/

theorem complete_keepsBounds (c : Context) (s : State) : s.KeepsBounds (complete c s) := by
  have runs := keepsBounds_runs s
  have closed : s.KeepsBounds s.abandon := abandon_keepsBounds s
  unfold complete
  split
  · exact closed
  · dsimp only
    exact runs.grant _ (runs.recordToOwner
      ((closed.trans (storeRecord_keepsBounds ..)).trans (evaluateAll_keepsBounds ..)))

/-- A phase that ends leaves the converter working (03 R53, R54, R55). -/
theorem setConverter_keepsBounds {x : ConverterState} (h : s.cv.state.context.isSome = x.context.isSome) :
    s.KeepsBounds (s.setConverter x) :=
  { KeepsBounds.refl s with grant := fun g => Eq.trans (show s.ca.grant.isSome = _ from g) h }

theorem acceptEdge_keepsBounds (k : Fin 4) (d : Direction) (stamp : Stamp) (s : State) :
    s.KeepsBounds (acceptEdge k d stamp s) := (keepsBounds_runs s).acceptEdge (logEntry_keepsBounds ..)

theorem updInput_keepsBounds (s : State) (k : Fin 4) (f : CaptureInput → CaptureInput) :
    s.KeepsBounds (s.updInput k f) := .of_same rfl rfl rfl rfl rfl rfl

theorem pinChanged_keepsBounds (k : Fin 4) (v : Level) (s : State) : s.KeepsBounds (pinChanged k v s) := by
  unfold pinChanged
  dsimp only
  split
  · split
    · exact updInput_keepsBounds ..
    · exact .refl s
  · split
    · exact .refl s
    · split
      · exact updInput_keepsBounds ..
      · split
        · exact (updInput_keepsBounds ..).trans (acceptEdge_keepsBounds ..)
        · exact updInput_keepsBounds ..

theorem tableAfter_length (now : Stamp) (e : ScheduleEntry) (rest : List ScheduleEntry) :
    (tableAfter now e rest).length ≤ rest.length + 1 := by
  unfold tableAfter
  split
  · rw [insertEntry_length]
  · exact Nat.le_succ _

/-- An action that fires leaves the schedule's table to what follows it. -/
theorem actionEffect_su (e : ScheduleEntry) (s : State) : (actionEffect e s).su = s.su := by
  unfold actionEffect
  split
  · rfl
  · exact (takeTrigger_only ..).su

theorem fireFront_keepsBounds (s : State) : s.KeepsBounds (fireFront s) := by
  unfold fireFront
  split
  · exact .refl s
  · next e rest front =>
    have effect : s.KeepsBounds (actionEffect e s) := by
      unfold actionEffect
      split
      · exact .of_same rfl rfl rfl rfl rfl rfl
      · exact (keepsBounds_runs s).takeTrigger (.refl s)
    refine (effect.raiseIf e.notify (.actionFired e.handle e.action e.repeatsAfter)).trans
      (setTable_keepsBounds ?_)
    rw [State.raiseIf_su, actionEffect_su, front]
    exact tableAfter_length ..

theorem safeWrite_keepsBounds (s : State) : s.KeepsBounds (safeWrite s) :=
  foldl_keepsBounds (f := fun s k => s.writeLine k (s.line k).safe .safe)
    (fun _ _ => .of_same rfl rfl rfl rfl rfl rfl) allFour s

theorem enterSafe_keepsBounds (s : State) : s.KeepsBounds (enterSafe s) :=
  (keepsBounds_runs s).raise _ _ ((departRun_keepsBounds ..).trans (safeWrite_keepsBounds _))

/-! ### The resets -/

/-- After a reset the stores are empty and the arbiter is at its reset values (11 R170). -/
theorem keepsBounds_of_reset (hca : t.ca = .reset) (hcv : t.cv.state.context = none) (hrs : t.rs.fifo = [])
    (htcu : t.tcu.log = []) (hsu : t.su = .reset) (hwu : s.WatchesSound → t.WatchesSound) :
    s.KeepsBounds t where
  fifo _ := by rw [hrs]; decide
  log _ := by rw [htcu]; decide
  schedule _ := by rw [hsu]; decide
  handle _ := by rw [hsu]; decide
  waiting _ := by rw [hca]; decide
  ticket _ := by rw [hca]; decide
  differ _ _ := by rw [hca]; decide
  grant _ := by unfold State.GrantMatchesConverter; rw [hca, hcv]; rfl
  watches := hwu

theorem hardReset_keepsBounds (cause : ResetCause) (s : State) : s.KeepsBounds (hardReset cause s) :=
  keepsBounds_of_reset rfl rfl rfl rfl rfl fun _ w e he => by
    simp [hardReset, WatchUnit.reset, State.watch] at he

theorem endHardReset_keepsBounds (straps : Straps) (s : State) : s.KeepsBounds (endHardReset straps s) :=
  (hardReset_keepsBounds s.nc.cause s).trans (.of_same rfl rfl rfl rfl rfl rfl)

theorem watch_softReset (s : State) (w : Fin 12) :
    (softReset s).watch w = (s.watch w).map fun e => .fresh e.defn := by
  simp [softReset, raiseStarted, State.watch]

theorem softReset_keepsBounds (s : State) : s.KeepsBounds (softReset s) :=
  keepsBounds_of_reset rfl rfl rfl rfl rfl fun h w e he => by
    rw [watch_softReset] at he
    obtain ⟨x, hx, rfl⟩ := Option.map_eq_some_iff.mp he
    have sound := h w x hx
    exact WatchEntry.fresh_sound sound.limits sound.hysteresis sound.confirm

/-! ### Every block -/

theorem advance_keepsBounds (s : State) (d : Stamp) : s.KeepsBounds (s.advance d) :=
  .of_same rfl rfl rfl rfl rfl rfl

/-- What is due at its stamp keeps the bounds that its effect keeps. -/
theorem State.KeepsBounds.whenDue {f : State → State} (h : s.KeepsBounds t) (due : Option Stamp)
    (hf : ∀ d, (t.advance d).KeepsBounds (f (t.advance d))) : s.KeepsBounds (t.whenDue due f) :=
  State.whenDue_keeps (P := s.KeepsBounds) h fun d => (h.trans (advance_keepsBounds t d)).trans (hf d)

/-- Every block's part of a step keeps the bounds. -/
theorem keepsBounds_blocks (s : State) : KeptByBlocks s.KeepsBounds where
  queue _ _ h := h.trans (.of_same rfl rfl rfl rfl rfl rfl)
  free _ h := h.trans (.of_same rfl rfl rfl rfl rfl rfl)
  line _ _ h := h.trans (.of_same rfl rfl rfl rfl rfl rfl)
  hand _ _ h := h.trans (.of_same rfl rfl rfl rfl rfl rfl)
  timer _ h := h.trans (restartTimer_keepsBounds _)
  owner _ _ _ _ _ h e := h.trans (owner_keepsBounds e)
  tick t h := by
    unfold tick; split
    · exact h
    · exact h.trans (.of_same rfl rfl rfl rfl rfl rfl)
  por straps t h := by
    unfold por; split
    · exact h.trans (hardReset_keepsBounds ..)
    · exact (h.trans (hardReset_keepsBounds ..)).trans (endHardReset_keepsBounds ..)
  pinReset t h := by
    unfold pinReset; split
    · exact h
    · exact (h.trans (hardReset_keepsBounds .pin t)).trans (.of_same rfl rfl rfl rfl rfl rfl)
  pinRelease straps t h := by
    unfold pinRelease; split
    · exact h.trans (endHardReset_keepsBounds ..)
    · exact h
  softReset _ h := h.trans (softReset_keepsBounds _)
  calibrationEnd t h := by
    unfold calibrationEnd; split
    · next calibrating =>
      exact h.whenDue _ fun d => (setConverter_keepsBounds (s := t.advance d) (x := .idle)
        (by rw [State.advance_cv, calibrating]; rfl)).trans (makeGrant_keepsBounds _)
    · exact h
  checkEnd _ _ t h := by
    unfold checkEnd; split
    · next checking =>
      exact h.whenDue _ fun d => setConverter_keepsBounds (by rw [State.advance_cv, checking]; rfl)
    · exact h
  settleEnd t h := by
    unfold settleEnd; split
    · next settling =>
      exact h.whenDue _ fun d => setConverter_keepsBounds (by rw [State.advance_cv, settling]; rfl)
    · exact h
  sampleEnd level t h := by
    unfold sampleEnd; split
    · next sampling =>
      refine h.whenDue _ fun d => ?_
      unfold endSample
      dsimp only
      split
      · exact setConverter_keepsBounds (by rw [State.advance_cv, sampling]; rfl)
      · exact complete_keepsBounds ..
    · exact h
  waitExpiry k t h := by
    unfold waitExpiry; split
    · exact h.whenDue _ fun d => (keepsBounds_runs _).finishStep (.refl _)
    · exact h
  awaitTimeout k t h := by
    unfold awaitTimeout; split
    · exact h.whenDue _ fun d => (keepsBounds_runs _).endRun (.refl _)
    · exact h
  restStamp k t h := by
    unfold restReached; split
    · exact h.whenDue _ fun d => (keepsBounds_runs _).beginStep ((keepsBounds_runs _).updList _ _ _ (.refl _))
    · exact h
  capturePinChange k v t h := by
    have moved : s.KeepsBounds (t.setPin k v) := h.trans (.of_same rfl rfl rfl rfl rfl rfl)
    unfold capturePinChange
    split
    · exact h
    · split
      · exact moved
      · exact moved.trans (pinChanged_keepsBounds ..)
  debounceEnd k t h := by
    unfold debounceEnd
    split
    · split
      · exact h.whenDue _ fun d => (updInput_keepsBounds ..).trans (acceptEdge_keepsBounds ..)
      · exact h
    · exact h
  actionFiring _ h := h.whenDue _ fun _ => fireFront_keepsBounds _
  silenceExpiry _ h := h.whenDue _ fun _ => enterSafe_keepsBounds _

/-- A step keeps every bound that holds before it. -/
theorem step_keepsBounds (e : step s = .next t) : s.KeepsBounds t := (keepsBounds_blocks s).step (.refl s) e

/-- Settles O55: one step keeps all the bounds, each on its own. -/
theorem stepKeepsBoundsGrantAndTickets : Obligations.StepKeepsBoundsGrantAndTickets := by
  refine ⟨fun s t h e => ?_, fun s t h e => (step_keepsBounds e).grant h, fun s t h e => ?_, fun s t h e => ?_,
    fun s t h e => (step_keepsBounds e).watches h⟩ <;> have kept := step_keepsBounds e
  · exact ⟨kept.fifo h.fifo, kept.waiting h.tickets, kept.log h.log, kept.schedule h.schedule⟩
  · exact ⟨kept.waiting h.waiting, kept.differ h.waiting h.differ⟩
  · exact ⟨kept.ticket h.ticket, kept.handle h.handle⟩

end

end Sys2Proof.Machine
end

section
/-! No claim stands on a free converter (02 R36). `State.ServedBut` allows the lists in the middle of an
operation; a grant serves every claim, and an operation that makes none leaves no claim that was not there. -/

namespace Sys2Proof.Machine

/-! ### Claims -/

/-- A record that claims: ACTIVE at a CONVERT step of the step memory, its in-flight flag clear (02 R32). -/
structure ListRecord.ClaimsIn (steps : Vector StepRecord 128) (l : ListRecord) : Prop where
  active : l.state = .active
  idle : l.inFlight = false
  converting : ∃ c g, l.stepIn steps = some (.convert c g)

theorem listClaims_iff (s : State) (k : Fin 8) :
    listClaims s k = true ↔ (s.list k).ClaimsIn s.se.steps := by
  unfold listClaims
  rw [currentStep_eq]
  constructor
  · intro h
    simp only [Bool.and_eq_true, beq_iff_eq, Bool.not_eq_true'] at h
    obtain ⟨⟨active, idle⟩, converting⟩ := h
    split at converting
    · next c g atConvert => exact ⟨active, idle, c, g, atConvert⟩
    · cases converting
  · rintro ⟨active, idle, c, g, atConvert⟩
    rw [active, idle, atConvert]
    rfl

/-- A list that claims has a definition, and so a level. -/
theorem listLevel_isSome {s : State} {k : Fin 8} (h : (s.list k).ClaimsIn s.se.steps) :
    ∃ level, listLevel s k = some level := by
  obtain ⟨-, -, c, g, atConvert⟩ := h
  unfold ListRecord.stepIn at atConvert
  unfold listLevel
  cases hd : (s.list k).defn with
  | none => rw [hd] at atConvert; cases atConvert
  | some d => exact ⟨d.level, rfl⟩

/-- Where the converter is IDLE and unowned no ticket waits and no list claims, but those excepted. -/
def State.ServedBut (except : Fin 8 → Prop) (s : State) : Prop :=
  s.cv.state = .idle → s.ca.grant = none →
    s.ca.queue = [] ∧ ∀ k, ¬ except k → ¬ (s.list k).ClaimsIn s.se.steps

/-- No claim stands on a free converter. -/
def State.Served (s : State) : Prop := s.ServedBut noList

theorem claimUnserved_iff (s : State) : s.claimUnserved = false ↔ s.Served := by
  have claims : allLists.any (listClaims s) = false ↔ ∀ k, ¬ (s.list k).ClaimsIn s.se.steps := by
    rw [List.any_eq_false]
    exact ⟨fun h k c => h k (mem_allLists k) ((listClaims_iff s k).mpr c),
      fun h k _ c => h k ((listClaims_iff s k).mp c)⟩
  unfold State.claimUnserved State.Served State.ServedBut
  rw [Bool.and_eq_false_imp, Bool.or_eq_false_iff, claims]
  simp [noList]

section
variable {s t : State} {k : Fin 8} {except : Fin 8 → Prop}

/-- A converter that is not IDLE keeps no claim waiting. -/
theorem servedBut_of_busy (h : s.cv.state ≠ .idle) : s.ServedBut except := fun idle => absurd idle h

/-- Claims are read from the Scan Engine, the arbiter and the converter's state alone. -/
theorem State.ServedBut.of_eq (h : s.ServedBut except) (hse : t.se = s.se) (hca : t.ca = s.ca)
    (hcv : t.cv.state = s.cv.state) : t.ServedBut except := by
  unfold State.ServedBut State.list at *
  rwa [hse, hca, hcv]

theorem State.ServedBut.raiseIf (h : s.ServedBut except) (c : Bool) (b : NoticeBody) :
    (s.raiseIf c b).ServedBut except := h.of_eq (by simp) (by simp) (by simp)

theorem State.Served.but (h : s.Served) (k : Fin 8) : s.ServedBut (· = k) := fun idle free =>
  ⟨(h idle free).1, fun j _ => (h idle free).2 j id⟩

/-- Where the excepted list does not claim either, every claim is served. -/
theorem State.ServedBut.all (h : s.ServedBut (· = k)) (hk : ¬ (s.list k).ClaimsIn s.se.steps) : s.Served := by
  refine fun idle free => ⟨(h idle free).1, fun j _ => ?_⟩
  by_cases e : j = k
  · subst e; exact hk
  · exact (h idle free).2 j e

/-- A change of the excepted list's record is free. -/
theorem State.ServedBut.updList (h : s.ServedBut (· = k)) (f : ListRecord → ListRecord) :
    (s.updList k f).ServedBut (· = k) := fun idle free =>
  ⟨(h idle free).1, fun j hj => by rw [State.list_updList_ne s k j f hj]; exact (h idle free).2 j hj⟩

/-- A change that makes a record claim no more than it did. -/
theorem State.Served.updList (h : s.Served) {f : ListRecord → ListRecord}
    (hf : (f (s.list k)).ClaimsIn s.se.steps → (s.list k).ClaimsIn s.se.steps) : (s.updList k f).Served := by
  intro idle free
  refine ⟨(h idle free).1, fun j _ => ?_⟩
  rw [State.list_updList]
  split
  · next e => exact fun c => (h idle free).2 k id (hf c)
  · exact (h idle free).2 j id

/-! ### Grants -/

theorem giveConverter_served (s : State) (o : Owner) (c : Fin 16) (g : OptGroup) :
    (s.giveConverter o c g).Served := by
  refine servedBut_of_busy fun idle => ?_
  have working := startConversion_working s.now c (effective s.cv.settings c g)
  rw [State.giveConverter_cv_state] at idle
  rw [idle] at working
  cases working

/-- A grant leaves no claim on a free converter (02 R36). -/
theorem makeGrant_served (s : State) : (makeGrant s).Served := by
  by_cases free : s.cv.state = .idle ∧ s.ca.grant = none
  · cases waiting : s.ca.queue with
    | cons x rest =>
      rw [makeGrant_ticket free.1 free.2 waiting]
      exact giveConverter_served _ _ _ _
    | nil =>
      cases chosen : chosenList s with
      | some j =>
        obtain ⟨claims, level, priority, -⟩ := chosenList_spec chosen
        obtain ⟨-, -, c, g, atConvert⟩ := (listClaims_iff s j).mp claims
        rw [makeGrant_chosen free.1 free.2 waiting chosen, grantList_eq atConvert priority]
        exact giveConverter_served _ _ _ _
      | none =>
        rw [makeGrant_unclaimed waiting chosen]
        refine fun _ _ => ⟨waiting, fun j _ claims => ?_⟩
        obtain ⟨level, priority⟩ := listLevel_isSome claims
        have found := chosenList_isSome ((listClaims_iff s j).mpr claims) (by rw [priority]; rfl)
        rw [chosen] at found
        cases found
  · have busy : s.cv.state ≠ .idle ∨ s.ca.grant ≠ none := not_and_or.mp free
    rw [makeGrant_busy busy]
    exact fun idle unowned => absurd ⟨idle, unowned⟩ free

/-! ### Steps and runs -/

/-- A step that begins claims in an event that grants, or waits (01 R9). -/
theorem beginStep_served (h : s.ServedBut (· = k)) : (beginStep false k s).Served := by
  have waits : ∀ (e : Option Stamp) (x : StepRecord), currentStep s k = some x → (∀ c g, x ≠ .convert c g) →
      (s.updList k fun l => { l with expiry := e, edgeWaiting := false }).Served := by
    intro e x hx other
    refine (h.updList _).all fun claims => ?_
    rw [State.list_updList_self] at claims
    obtain ⟨-, -, c, g, atConvert⟩ := claims
    exact other c g (Option.some.inj (hx.symm.trans atConvert))
  unfold beginStep
  split
  · exact makeGrant_served _
  · next n atWait => exact waits _ _ atWait nofun
  · next i n atAwait => exact waits _ _ atAwait nofun
  · next noStep =>
    refine h.all fun claims => ?_
    obtain ⟨-, -, c, g, atConvert⟩ := claims
    exact nomatch noStep.symm.trans atConvert

theorem startRun_served (h : s.ServedBut (· = k)) : (startRun false k s).Served := beginStep_served (h.updList _)

/-- A run that ends with no conversion in flight frees nothing, and its list claims no more (01 R20). -/
theorem closeRun_served {reason : EndReason} (h : s.ServedBut (· = k)) (idle : (s.list k).inFlight = false) :
    (closeRun k reason s).Served := by
  have left : leaveConverter k s = s := by unfold leaveConverter; rw [if_neg (by simp [idle])]
  obtain ⟨ca, cv⟩ := closeRun_arbiter k reason s
  rw [left] at ca cv
  have others : (closeRun k reason s).ServedBut (· = k) := fun idle free => by
    rw [cv] at idle
    rw [ca] at free
    refine ⟨by rw [ca]; exact (h idle free).1, fun j hj => ?_⟩
    rw [list_closeRun_ne reason s hj, (closeRun_only k reason s).steps]
    exact (h idle free).2 j hj
  refine others.all fun claims => ?_
  rcases state_closeRun k reason s with e | e <;> exact nomatch e.symm.trans claims.active

/-! ### Triggers -/

theorem retrigger_served {p : Policy} (h : s.Served) : (retrigger false k p s).Served := by
  unfold retrigger
  split
  · exact h.updList fun claims => { claims with }
  · exact h.updList fun claims => { claims with }
  · exact makeGrant_served _

theorem takeTrigger_served {src : TriggerSource} (h : s.Served) : (takeTrigger false src k s).Served := by
  unfold takeTrigger
  split
  · exact h
  · split
    · split
      · exact startRun_served (h.but k)
      · exact retrigger_served h
      · exact retrigger_served h
      · exact h
      · exact h
    · exact h

theorem deliver_served {src : TriggerSource} (h : s.Served) : (deliver false src s).Served :=
  foldl_keeps (P := State.Served) (fun _ _ ht => takeTrigger_served ht) allLists s h

/-! ### The end of a run, of a pass and of a step -/

theorem chain_served (h : s.Served) : (chain false k s).Served := by
  have delivered : (deliver false (.listDone k) s).Served := deliver_served h
  unfold chain
  dsimp only
  split
  · exact startRun_served ((delivered.but k).updList _)
  · exact delivered

theorem endRun_served {reason : EndReason} (h : s.ServedBut (· = k)) (idle : (s.list k).inFlight = false) :
    (endRun false k reason s).Served := by
  have closed := closeRun_served (reason := reason) h idle
  unfold endRun
  dsimp only
  split
  · exact chain_served closed
  · exact closed

theorem restOrOverrun_served {d : ListDef} (h : s.ServedBut (· = k)) : (restOrOverrun false d k s).Served := by
  unfold restOrOverrun nextPass
  dsimp only
  split
  · refine (h.updList _).all fun claims => ?_
    rw [State.list_updList_self] at claims
    cases claims.active
  · exact beginStep_served (((h.updList _).raiseIf _ _).updList _)

theorem endPass_served {d : ListDef} (h : s.ServedBut (· = k)) (idle : (s.list k).inFlight = false) :
    (endPass false d k s).Served := by
  have counted : (countPass d k s).ServedBut (· = k) := (h.updList _).raiseIf _ _
  have countedIdle : ((countPass d k s).list k).inFlight = false := by rw [list_countPass_self]; exact idle
  unfold endPass
  dsimp only
  split
  · exact endRun_served counted countedIdle
  · split
    · exact endRun_served counted countedIdle
    · split
      · exact beginStep_served (counted.updList _)
      · exact restOrOverrun_served counted

theorem finishStep_served (h : s.Served) (idle : (s.list k).inFlight = false) : (finishStep false k s).Served := by
  unfold finishStep
  split
  · exact h
  · dsimp only
    split
    · exact beginStep_served ((h.but k).updList _)
    · exact endPass_served ((h.but k).updList _) (by rw [State.list_updList_self]; exact idle)

/-! ### Edges -/

theorem markWaiting_served (input : Fin 4) (h : s.Served) : (markWaiting input s).Served := by
  refine foldl_keeps (P := State.Served) (fun t k ht => ?_) allLists s h
  split
  · exact ht.updList fun claims => { claims with }
  · exact ht

/-- The lists that an edge finishes have no conversion in flight. -/
theorem finishWaiting_served (standing : s.Standing (fun _ => True) noList) (h : s.Served) :
    (finishWaiting s).Served := by
  refine (foldl_keeps (P := fun t : State => t.Standing (fun _ => True) noList ∧ t.Served)
    (fun t k ht => ?_) allLists s ⟨standing, h⟩).2
  obtain ⟨stands, served⟩ := ht
  have hk := stands k id
  split
  · next marked =>
    have idle := hk.idle_of_mark marked
    exact ⟨(finishStep_standing stands (hk.mark marked).2.1 idle fun _ _ => id).mono fun _ _ => trivial,
      finishStep_served served idle⟩
  · exact ⟨stands, served⟩

theorem acceptEdge_served {k : Fin 4} {d : Direction} {stamp : Stamp} (standing : s.Standing noList noList)
    (h : s.Served) : (acceptEdge k d stamp s).Served := by
  have same := logEntry_sameCore (.edge k d stamp) s
  have logged : (logEntry (.edge k d stamp) s).Standing noList noList :=
    standing.of_eq same.se (congrArg Arbiter.grant same.ca)
  have served : (logEntry (.edge k d stamp) s).Served := h.of_eq same.se same.ca (by rw [logEntry_cv])
  refine State.ServedBut.raiseIf (finishWaiting_served (deliver_standing (markWaiting_standing k logged)
    fun _ _ => id) (deliver_served (markWaiting_served k served))) _ _

end

end Sys2Proof.Machine
end

section
/-! No step leaves a claim standing on a free converter: the owners, the events and the resets. -/

namespace Sys2Proof.Machine

section
variable {s t : State} {k : Fin 8}

/-- How the lists stand, the converter working exactly while the grant record is not NONE, and no claim
standing on a free converter. -/
structure State.Arbitrated (s : State) : Prop where
  standing : s.Standing noList noList
  grant : s.GrantMatchesConverter
  served : s.Served

/-- The first two are kept by what keeps the lists standing and the bounds. -/
theorem State.Arbitrated.next (h : s.Arbitrated) (standing : t.Standing noList noList) (bounds : s.KeepsBounds t)
    (served : t.Served) : t.Arbitrated := ⟨standing, bounds.grant h.grant, served⟩

/-- An operation that touches neither the Scan Engine nor the arbiter nor the converter. -/
theorem State.Arbitrated.of_eq (h : s.Arbitrated) (hse : t.se = s.se) (hca : t.ca = s.ca)
    (hcv : t.cv.state = s.cv.state) : t.Arbitrated where
  standing := h.standing.of_eq hse (congrArg Arbiter.grant hca)
  grant := by
    have := h.grant
    unfold State.GrantMatchesConverter at *
    rwa [hca, hcv]
  served := h.served.of_eq hse hca hcv

/-! ### The owners -/

theorem restartTimer_served (h : s.Served) : (restartTimer s).Served := by
  unfold restartTimer
  split
  · exact h.of_eq rfl rfl rfl
  · exact h

theorem departRun_served (target : NodeState) (reason : EndReason) (s : State) :
    (departRun target reason s).Served := by
  have ended : (endAllLists reason { s with nc := { s.nc with state := target, timer := none } }).Served :=
    makeGrant_served _
  unfold departRun
  dsimp only
  generalize endAllLists reason _ = u at ended ⊢
  exact ended.of_eq rfl rfl rfl

/-- A list that does not run claims nothing. -/
theorem fresh_not_claims (steps : Vector StepRecord 128) (d : Option ListDef) :
    ¬ (ListRecord.fresh d).ClaimsIn steps := fun claims => by
  have active := claims.active
  cases d <;> cases active

/-- No list that claims stands at a step that is written (01 R3). -/
theorem writeSteps_served {first : Nat} {rs : List StepRecord} (standing : s.Standing noList noList)
    (h : s.Served) (free : stepsInUse s.se first rs.length = false) :
    State.Served { s with se := { s.se with steps := writeSteps s.se.steps first rs } } := fun idle unowned => by
  refine ⟨(h idle unowned).1, fun k _ claims => (h idle unowned).2 k id ?_⟩
  have active : (s.list k).state = .active := claims.active
  have running : (s.list k).state.running = true := by rw [active]; rfl
  obtain ⟨c, g, atConvert⟩ := claims.converting
  exact ⟨active, claims.idle, c, g, (stepIn_writeSteps free running (standing k id).index).symm.trans atConvert⟩

theorem startReply_served {n : Nat} {body : List Byte} {u : State} (h : u.Served)
    (e : startReply k n u = .accept body t) : t.Served := by cases e; exact h

theorem ownStartList_served {b body : List Byte} (h : s.Served) (e : ownStartList b s = .accept body t) :
    t.Served := by
  unfold ownStartList at e
  split at e
  · cases e
  · next k _ =>
    split at e
    · cases e
    · split at e
      · cases e
      · cases e
      · split at e
        · exact startReply_served (startRun_served (h.but k)) e
        · exact startReply_served (h.updList fun claims => by cases claims.active) e
      · exact startReply_served h e
      · split at e
        · exact startReply_served (retrigger_served h) e
        · cases e
      · split at e
        · exact startReply_served (retrigger_served h) e
        · cases e

theorem stopNow_served {body : List Byte} (h : s.Served) (e : stopNow k s = .accept body t) : t.Served := by
  unfold stopNow stopReply at e
  split at e <;> cases e
  · exact makeGrant_served _
  · exact makeGrant_served _
  · exact State.ServedBut.raiseIf (h.updList fun claims => by cases claims.active) _ _
  · exact h
  · exact h

theorem ownStopList_served {b body : List Byte} (h : s.Served) (e : ownStopList b s = .accept body t) :
    t.Served := by
  unfold ownStopList at e
  split at e
  · cases e
  · exact stopNow_served h e
  · unfold stopFinish at e
    split at e
    · cases e; exact h.updList fun claims => { claims with }
    all_goals exact stopNow_served h e
  · cases e

theorem afterPlacing_served (s : State) : (afterPlacing s).Served := by
  unfold afterPlacing
  split
  · exact makeGrant_served _
  · exact makeGrant_served s

theorem ownConvert_served {b body : List Byte} (e : ownConvert b s = .accept body t) : t.Served := by
  unfold ownConvert at e
  split at e
  · cases e
  · split at e
    · cases e
    · split at e <;> cases e
      exact afterPlacing_served _

theorem ownCancelConvert_served {b body : List Byte} (h : s.Served) (e : ownCancelConvert b s = .accept body t) :
    t.Served := by
  rw [ownCancelConvert_eq] at e
  split at e
  · cases e
  · split at e
    · cases e
      exact fun idle free => ⟨by rw [show s.ca.queue = [] from (h idle free).1]; rfl, (h idle free).2⟩
    · split at e <;> cases e
      · exact makeGrant_served _
      · exact h

/-- What an owner accepts leaves no claim standing on a free converter. -/
theorem owner_served {k : Kind} {b body : List Byte} (standing : s.Standing noList noList) (h : s.Served)
    (e : owner k b s = .accept body t) : t.Served := by
  cases hk : reachesLists k with
  | false =>
    have core := owner_sameCore hk e
    exact h.of_eq core.se core.ca (owner_sparesConverter hk e).state
  | true =>
    cases k with
    | go =>
      simp only [owner, ownGo] at e
      split at e <;> cases e
      · exact h
      · exact restartTimer_served (h.of_eq rfl rfl rfl)
    | halt =>
      simp only [owner, ownHalt] at e
      split at e <;> cases e
      · exact departRun_served _ _ s
      · exact h.of_eq rfl rfl rfl
      · exact h
    | restart => cases e; exact h.of_eq rfl rfl rfl
    | setSilence =>
      simp only [owner, ownSetSilence] at e
      split at e <;> cases e
      split
      · exact h.of_eq rfl rfl rfl
      · exact restartTimer_served (h.of_eq rfl rfl rfl)
    | convert => exact ownConvert_served e
    | cancelConvert => exact ownCancelConvert_served h e
    | writeSteps =>
      simp only [owner, ownWriteSteps] at e
      split at e
      · cases e
      · split at e
        · cases e
        · next rs read =>
          split at e <;> cases e
          next free =>
          rw [← parseSteps_length read] at free
          exact writeSteps_served standing h (by simpa using free)
    | defineList =>
      simp only [owner, ownDefineList] at e
      split at e
      · cases e
      · split at e
        · cases e
        · split at e <;> cases e
          exact h.updList fun claims => (fresh_not_claims _ _ claims).elim
    | startList => exact ownStartList_served h e
    | stopList => exact ownStopList_served h e
    | clearList =>
      simp only [owner, ownClearList] at e
      split at e
      · cases e
      · split at e <;> cases e
        exact h.updList fun claims => (fresh_not_claims _ _ claims).elim
    | schedule =>
      simp only [owner, ownSchedule] at e
      split at e
      · cases e
      · split at e
        · cases e
        · split at e
          · cases e
          · split at e <;> cases e
            exact h.of_eq rfl rfl rfl
    | cancelAction =>
      simp only [owner, ownCancelAction] at e
      split at e
      · cases e
      · split at e <;> cases e
        exact h.of_eq rfl rfl rfl
    | _ => cases hk

/-! ### The events -/

theorem waitExpiry_served (standing : s.Standing noList noList) (h : s.Served) : (waitExpiry k s).Served := by
  unfold waitExpiry
  split
  · next active atWait =>
    exact State.whenDue_keeps h fun d => finishStep_served (h.of_eq rfl rfl rfl)
      ((standing k id).idle_of_step atWait nofun)
  · exact h

theorem awaitTimeout_served (standing : s.Standing noList noList) (h : s.Served) : (awaitTimeout k s).Served := by
  unfold awaitTimeout
  split
  · next active atAwait =>
    have advanced : ∀ d, (s.advance d).Served := fun d => h.of_eq rfl rfl rfl
    exact State.whenDue_keeps h fun d => endRun_served ((advanced d).but k)
      ((standing k id).idle_of_step atAwait nofun)
  · exact h

theorem restReached_served (h : s.Served) : (restReached k s).Served := by
  have advanced : ∀ d, (s.advance d).Served := fun d => h.of_eq rfl rfl rfl
  unfold restReached
  split
  · exact State.whenDue_keeps h fun d => beginStep_served (((advanced d).but k).updList _)
  · exact h

theorem pinChanged_served {k : Fin 4} {v : Level} (standing : s.Standing noList noList) (h : s.Served) :
    (pinChanged k v s).Served := by
  have same : ∀ f, (s.updInput k f).Served := fun f => h.of_eq rfl rfl rfl
  unfold pinChanged
  dsimp only
  split
  · split
    · exact same _
    · exact h
  · split
    · exact h
    · split
      · exact same _
      · split
        · exact acceptEdge_served (standing.of_eq rfl rfl) (same _)
        · exact same _

theorem fireFront_served (h : s.Served) : (fireFront s).Served := by
  unfold fireFront
  split
  · exact h
  · next e rest _ =>
    have effect : (actionEffect e s).Served := by
      unfold actionEffect
      split
      · exact h.of_eq rfl rfl rfl
      · exact takeTrigger_served h
    have noted := State.ServedBut.raiseIf effect e.notify (.actionFired e.handle e.action e.repeatsAfter)
    exact noted.of_eq rfl rfl rfl

theorem enterSafe_served (s : State) : (enterSafe s).Served := by
  have left := departRun_served .safe .nodeSafe s
  have core := safeWrite_core (departRun .safe .nodeSafe s)
  have written : (safeWrite (departRun .safe .nodeSafe s)).cv = (departRun .safe .nodeSafe s).cv := by
    rw [safeWrite_eq]
  unfold enterSafe
  generalize departRun .safe .nodeSafe s = u at left core written ⊢
  exact left.of_eq core.se core.ca (congrArg Converter.state written)

/-- The completion of an owned conversion makes its own grant (02 R39). -/
theorem complete_served {c : Context} (owned : s.ca.grant.isSome = true) : (complete c s).Served := by
  obtain ⟨g, hg⟩ := Option.isSome_iff_exists.mp owned
  rw [complete_eq c hg]
  exact makeGrant_served _

/-- A sample ends with the converter at work, or with a grant. -/
theorem sampleEnd_served (level : BitVec 12) (grant : s.GrantMatchesConverter) (h : s.Served) :
    (sampleEnd level s).Served := by
  unfold sampleEnd
  split
  · next c sampling =>
    have owned : s.ca.grant.isSome = true := by
      unfold State.GrantMatchesConverter at grant
      rw [grant, sampling]
      rfl
    refine State.whenDue_keeps h fun d => ?_
    unfold endSample
    dsimp only
    split
    · exact servedBut_of_busy nofun
    · exact complete_served owned
  · exact h

/-! ### The resets -/

theorem hardReset_served (cause : ResetCause) (s : State) : (hardReset cause s).Served := servedBut_of_busy nofun

theorem endHardReset_served (straps : Straps) (s : State) : (endHardReset straps s).Served :=
  servedBut_of_busy nofun

theorem softReset_served (s : State) : (softReset s).Served := fun _ _ =>
  ⟨rfl, fun k _ => by rw [list_softReset]; exact fresh_not_claims _ _⟩

/-! ### Every block -/

/-- Every block's part of a step keeps the converter arbitrated. -/
theorem arbitrated_kept : KeptByBlocks State.Arbitrated where
  queue _ _ h := h.of_eq rfl rfl rfl
  free _ h := h.of_eq rfl rfl rfl
  line _ _ h := h.of_eq rfl rfl rfl
  hand _ _ h := h.of_eq rfl rfl rfl
  timer s h := h.next (standing_kept.timer s h.standing) (restartTimer_keepsBounds s) (restartTimer_served h.served)
  owner _ _ _ _ _ h e := h.next (owner_standing h.standing e) (owner_keepsBounds e)
    (owner_served h.standing h.served e)
  tick s h := by
    unfold tick; split
    · exact h
    · exact h.of_eq rfl rfl rfl
  por straps s h := by
    refine h.next (standing_kept.por straps s h.standing) ((keepsBounds_blocks s).por straps s (.refl s)) ?_
    unfold por; split
    · exact hardReset_served _ s
    · exact endHardReset_served straps _
  pinReset s h := by
    refine h.next (standing_kept.pinReset s h.standing) ((keepsBounds_blocks s).pinReset s (.refl s)) ?_
    unfold pinReset; split
    · exact h.served
    · exact servedBut_of_busy nofun
  pinRelease straps s h := by
    refine h.next (standing_kept.pinRelease straps s h.standing)
      ((keepsBounds_blocks s).pinRelease straps s (.refl s)) ?_
    unfold pinRelease; split
    · exact endHardReset_served straps _
    · exact h.served
  softReset s h := h.next (softReset_standing h.standing) (softReset_keepsBounds s) (softReset_served s)
  calibrationEnd s h := by
    refine h.next (standing_kept.calibrationEnd s h.standing) ((keepsBounds_blocks s).calibrationEnd s (.refl s)) ?_
    unfold calibrationEnd; split
    · exact State.whenDue_keeps h.served fun _ => makeGrant_served _
    · exact h.served
  checkEnd a b s h := by
    refine h.next (standing_kept.checkEnd a b s h.standing) ((keepsBounds_blocks s).checkEnd a b s (.refl s)) ?_
    unfold checkEnd; split
    · exact State.whenDue_keeps h.served fun _ => servedBut_of_busy nofun
    · exact h.served
  settleEnd s h := by
    refine h.next (standing_kept.settleEnd s h.standing) ((keepsBounds_blocks s).settleEnd s (.refl s)) ?_
    unfold settleEnd; split
    · exact State.whenDue_keeps h.served fun _ => servedBut_of_busy nofun
    · exact h.served
  sampleEnd level s h := h.next (standing_kept.sampleEnd level s h.standing)
    ((keepsBounds_blocks s).sampleEnd level s (.refl s)) (sampleEnd_served level h.grant h.served)
  waitExpiry k s h := h.next (waitExpiry_standing h.standing) ((keepsBounds_blocks s).waitExpiry k s (.refl s))
    (waitExpiry_served h.standing h.served)
  awaitTimeout k s h := h.next (awaitTimeout_standing h.standing)
    ((keepsBounds_blocks s).awaitTimeout k s (.refl s)) (awaitTimeout_served h.standing h.served)
  restStamp k s h := h.next (restReached_standing h.standing) ((keepsBounds_blocks s).restStamp k s (.refl s))
    (restReached_served h.served)
  capturePinChange k v s h := by
    refine h.next (standing_kept.capturePinChange k v s h.standing)
      ((keepsBounds_blocks s).capturePinChange k v s (.refl s)) ?_
    have moved : (s.setPin k v).Arbitrated := h.of_eq rfl rfl rfl
    unfold capturePinChange
    split
    · exact h.served
    · split
      · exact moved.served
      · exact pinChanged_served moved.standing moved.served
  debounceEnd k s h := by
    refine h.next (standing_kept.debounceEnd k s h.standing) ((keepsBounds_blocks s).debounceEnd k s (.refl s)) ?_
    unfold debounceEnd
    split
    · split
      · exact State.whenDue_keeps h.served fun _ =>
          acceptEdge_served (h.standing.of_eq rfl rfl) (h.served.of_eq rfl rfl rfl)
      · exact h.served
    · exact h.served
  actionFiring s h := h.next (standing_kept.actionFiring s h.standing)
    ((keepsBounds_blocks s).actionFiring s (.refl s))
    (State.whenDue_keeps h.served fun _ => fireFront_served (h.served.of_eq rfl rfl rfl))
  silenceExpiry s h := h.next (standing_kept.silenceExpiry s h.standing)
    ((keepsBounds_blocks s).silenceExpiry s (.refl s))
    (State.whenDue_keeps h.served fun _ => enterSafe_served _)

/-- Settles O57: every block keeps the converter arbitrated, so every step does. -/
theorem stepServesClaims : Obligations.StepServesClaims := by
  intro s t sound grant served e
  rw [listsSound_iff] at sound
  rw [claimUnserved_iff] at served ⊢
  exact (arbitrated_kept.step (State.Arbitrated.mk sound grant served) e).served

end

end Sys2Proof.Machine
end

section
/-! SET_CHANNEL and the channel settings table (03 R49). -/

namespace Sys2Proof.Machine

/-- The channel settings with an option group merged into every channel of a mask (03 R49). -/
def mergedSettings (settings : Vector Options 16) (mask : Nat) (g : OptGroup) : Vector Options 16 :=
  vecOf fun c => if bitOf mask c.val then settings[c].merge g else settings[c]

/-- A channel of the mask takes the fields given; every other channel stays (03 R49). -/
theorem mergedSettings_get (settings : Vector Options 16) (mask : Nat) (g : OptGroup) (c : Fin 16) :
    (mergedSettings settings mask g)[c] =
      if mask.testBit c.val = true then settings[c].merge g else settings[c] := vecOf_get _ c.val c.isLt

theorem allChannels_eq : allChannels = List.finRange 16 := by decide

theorem ownSetChannel_error {b : List Byte} {d : Nat} (h : parseOptGroup b 2 = .error d) (s : State) :
    ownSetChannel b s = .refuse .field d := by
  unfold ownSetChannel
  rw [h]

theorem ownSetChannel_ok {b : List Byte} {g : OptGroup} (h : parseOptGroup b 2 = .ok g) (s : State) :
    ownSetChannel b s =
      let table := mergedSettings s.cv.settings (wordAt b 0) g
      .accept ((List.finRange 16).flatMap fun c => optGroupBytes table[c].group)
        { s with cv := { s.cv with settings := table } } := by
  unfold ownSetChannel
  rw [h, allChannels_eq]
  rfl

/-- Settles O19: the owner's verdict, with the merged table for the settings as they then stand. -/
theorem setChannelWritesGivenFields : Obligations.SetChannelWritesGivenFields := by
  intro r s h len
  have verdict : exec (.setChannel r) s =
      .next (concludes .setChannel r s (ownSetChannel r.body (s.taken .setChannel r))) :=
    exec_owned rfl h (by simp [bodyLengthOk, len])
  rw [verdict]
  cases group : parseOptGroup r.body 2 with
  | error d =>
    rw [ownSetChannel_error group]
    rfl
  | ok g =>
    rw [ownSetChannel_ok group]
    exact ⟨_, mergedSettings_get s.cv.settings (wordAt r.body 0) g, rfl⟩

end Sys2Proof.Machine
end

section
/-! The ends of calibration, of the input check and of settling (03 R51, R53, R54): each event belongs to
one state of the converter, and takes place at that state's stamp. -/

namespace Sys2Proof.Machine

variable {s : State}

/-! ### In the other states -/

theorem calibrationEnd_other (other : s.cv.state ≠ .calibrating) : calibrationEnd s = s := by
  unfold calibrationEnd
  split
  · next calibrating => exact absurd calibrating other
  · rfl

theorem checkEnd_other (other : ∀ c, s.cv.state ≠ .checking c) (charged discharged : BitVec 12) :
    checkEnd charged discharged s = s := by
  unfold checkEnd
  split
  · next c checking => exact absurd checking (other c)
  · rfl

theorem settleEnd_other (other : ∀ c, s.cv.state ≠ .settling c) : settleEnd s = s := by
  unfold settleEnd
  split
  · next c settling => exact absurd settling (other c)
  · rfl

/-! ### In their own state, at the due stamp -/

/-- Calibration ends at its fixed stamp with the converter IDLE and a grant (03 R51). -/
theorem calibrationEnd_due (running : s.resetHeld = false) (calibrating : s.cv.state = .calibrating)
    (reached : s.reaches Config.calibrationEnd = true) :
    calibrationEnd s = makeGrant ((s.advance Config.calibrationEnd).setConverter .idle) := by
  unfold calibrationEnd Converter.due
  rw [calibrating]
  exact State.whenDue_due _ running reached

/-- The input check ends at the phase end (03 R53). -/
theorem checkEnd_due {c : Context} (charged discharged : BitVec 12) (running : s.resetHeld = false)
    (checking : s.cv.state = .checking c) (reached : s.reaches c.phaseEnd = true) :
    checkEnd charged discharged s = endCheck c charged discharged (s.advance c.phaseEnd) := by
  unfold checkEnd Converter.due
  rw [checking]
  exact State.whenDue_due _ running reached

/-- Settling ends at the phase end (03 R54). -/
theorem settleEnd_due {c : Context} (running : s.resetHeld = false) (settling : s.cv.state = .settling c)
    (reached : s.reaches c.phaseEnd = true) : settleEnd s = endSettle c (s.advance c.phaseEnd) := by
  unfold settleEnd Converter.due
  rw [settling]
  exact State.whenDue_due _ running reached

/-- The first sample begins at the present stamp, for the time of its mode (03 R54). -/
theorem endSettle_eq (c : Context) (s : State) : endSettle c s = s.setConverter (.sampling { c with
    firstSample := some s.tcu.stamp
    phaseEnd := s.tcu.stamp + (if c.options.mode = .standard then 8 else 3) }) := by
  unfold endSettle
  rw [sampleTime_eq]
  rfl

/-- Settles O24: each event in its own state and in the others. -/
theorem converterPhasesEnd : Obligations.ConverterPhasesEnd := by
  intro s
  refine ⟨fun other => ?calibrationOther, fun running calibrating reached => ?calibration,
    fun other charged discharged => ?checkOther, fun c charged discharged running checking reached => ?check,
    fun other => ?settleOther, fun c running settling reached => ?settle⟩ <;>
    refine congrArg Host.Outcome.next ?_
  case calibrationOther => exact calibrationEnd_other other
  case calibration => exact calibrationEnd_due running calibrating reached
  case checkOther => exact checkEnd_other other charged discharged
  case check => exact checkEnd_due charged discharged running checking reached
  case settleOther => exact settleEnd_other other
  case settle => exact (settleEnd_due running settling reached).trans (endSettle_eq c _)

end Sys2Proof.Machine
end

section
/-! IDENTIFY, ECHO, READ_STAMP, STATUS, FIFO_STATUS and OUTPUT_STATUS: the figures of the reply as the
statements write them, and the verdict of each owner (04 R76, 06 R96, R113, 09 R155, R156, 11 R180). -/

namespace Sys2Proof.Machine

/-- A request that its owner accepts leaves what the acceptance leaves. -/
theorem exec_accepts {i : Instr} {k : Kind} {r : Req} {s after : State} {body : List Byte}
    (hi : i.request = some (k, r)) (h : Hears k r s) (length : bodyLengthOk k r.body = true)
    (verdict : owner k r.body (s.taken k r) = .accept body after) :
    exec i s = .next (accepts k r s body after) := by
  rw [exec_owned hi h length, verdict]
  rfl

/-- The two arming flags as one number (04 R76, 12 §12.6). -/
theorem armingFlags_eq (r : ResultStore) :
    armingFlags r = (if r.levelArmed then 1 else 0) + (if r.fullArmed then 2 else 0) := by
  unfold armingFlags
  cases r.levelArmed <;> cases r.fullArmed <;> rfl

/-- FIFO_STATUS carries the figures and accepts the state as it is (04 R76). -/
theorem ownFifoStatus_eq (s : State) : ownFifoStatus s =
    .accept (u16 s.rs.fifo.length ++ u16 s.rs.dropped ++ u16 s.rs.level
      ++ u8 ((if s.rs.levelArmed then 1 else 0) + (if s.rs.fullArmed then 2 else 0))
      ++ u16 s.rs.nextSeq.toNat) s := by
  unfold ownFifoStatus
  rw [armingFlags_eq]

/-- STATUS carries the figures, its six counters one after another (11 R180). -/
theorem ownStatus_eq (s : State) : ownStatus s =
    .accept (u8 s.nc.state.code ++ u8 s.nc.cause.code ++ u16 s.nc.silence ++ u16 (remainingMs s)
      ++ u8 s.cv.state.code ++ u8 s.ca.queue.length ++ u8 (runningMask s.se) ++ u16 s.rs.fifo.length
      ++ u8 s.nq.notices.length ++ u8 s.tcu.log.length ++ u8 s.su.table.length
      ++ u16 s.li.counters.good ++ u16 s.li.counters.check ++ u16 s.li.counters.framing
      ++ u16 s.li.counters.malformed ++ u16 s.li.counters.overrun ++ u16 s.li.counters.ignored) s := by
  simp only [ownStatus, countersBytes, List.append_assoc]

/-- Settles O14: each owner accepts with its figures and leaves the state in which it took the request. -/
theorem plainReads : Obligations.PlainReads := by
  intro r s
  refine ⟨fun h len => ?identify, fun h => ?echo, fun h len => ?readStamp, fun h len => ?status,
    fun h len => ?fifoStatus, fun h len => ?outputStatus⟩
  case identify => exact exec_accepts rfl h (by simp [bodyLengthOk, len]) rfl
  case echo => exact exec_accepts rfl h rfl rfl
  case readStamp => exact exec_accepts rfl h (by simp [bodyLengthOk, len]) rfl
  case status => exact exec_accepts rfl h (by simp [bodyLengthOk, len]) (ownStatus_eq _)
  case fifoStatus => exact exec_accepts rfl h (by simp [bodyLengthOk, len]) (ownFifoStatus_eq _)
  case outputStatus => exact exec_accepts rfl h (by simp [bodyLengthOk, len]) rfl

end Sys2Proof.Machine
end

section
/-! The Result Store: a record numbered, placed and offered to the FIFO, and the four requests that change
the store (04 R65 to R68, R70 to R74, R77, R78). -/

namespace Sys2Proof.Machine

/-! ### A record stored -/

/-- Whether a record that enters raises FIFO_LEVEL: the notice is armed and the fill becomes the level
(04 R70). -/
def ResultStore.reachesLevel (r : ResultStore) : Prop :=
  r.levelArmed = true ∧ r.level ≠ 0 ∧ r.level = r.fifo.length + 1

/-- A record that makes the fill an armed level (04 R70). -/
theorem offer_level (x : Record) {s : State} (room : s.rs.fifo.length < 384) (hit : s.rs.reachesLevel) :
    offer x s = ({ s with
      rs := { s.rs with fifo := s.rs.fifo ++ [x], levelArmed := false }
      nq := s.nq.raise s.tcu.stamp (.fifoLevel (s.rs.fifo.length + 1)) }, .entered) := by
  obtain ⟨armed, nonzero, fill⟩ := hit
  have asChecked : s.rs.level ≠ 0 ∧ s.rs.fifo.length + 1 = s.rs.level ∧ s.rs.levelArmed = true :=
    ⟨nonzero, fill.symm, armed⟩
  unfold offer
  rw [if_pos (show s.rs.fifo.length < Config.fifoSize from room)]
  dsimp only
  rw [if_pos asChecked, decide_eq_true asChecked]
  rfl

/-- A record that finds room and does not (04 R70). -/
theorem offer_room (x : Record) {s : State} (room : s.rs.fifo.length < 384) (miss : ¬ s.rs.reachesLevel) :
    offer x s = ({ s with rs := { s.rs with fifo := s.rs.fifo ++ [x] } }, .entered) := by
  have asChecked : ¬ (s.rs.level ≠ 0 ∧ s.rs.fifo.length + 1 = s.rs.level ∧ s.rs.levelArmed = true) :=
    fun ⟨nonzero, fill, armed⟩ => miss ⟨armed, nonzero, fill.symm⟩
  unfold offer
  rw [if_pos (show s.rs.fifo.length < Config.fifoSize from room)]
  dsimp only
  rw [if_neg asChecked, decide_eq_false asChecked]
  rfl

/-- A record that finds the FIFO full (04 R71). -/
theorem offer_full (x : Record) {s : State} (full : 384 ≤ s.rs.fifo.length) :
    offer x s = ({ s with
      rs := { s.rs with dropped := min (s.rs.dropped + 1) 65535, fullArmed := false }
      nq := if s.rs.fullArmed then s.nq.raise s.tcu.stamp .fifoFull else s.nq }, .dropped) := by
  unfold offer
  rw [if_neg (show ¬ s.rs.fifo.length < Config.fifoSize from Nat.not_lt.mpr full)]
  dsimp only
  rw [State.raiseIf_eq]
  cases s.rs.fullArmed <;> rfl

/-- Settles O26: the record placed, and then what becomes of its offer. -/
theorem recordStored : Obligations.RecordStored := by
  intro x s placed
  have offered : storeRecord x true s = offer x { s with rs := placed } := rfl
  refine ⟨rfl, fun room => ⟨fun hit => ?level, fun miss => ?room⟩, fun full => ?full⟩ <;> rw [offered]
  case level => exact offer_level x (s := { s with rs := placed }) room hit
  case room => exact offer_room x (s := { s with rs := placed }) room miss
  case full => exact offer_full x (s := { s with rs := placed }) full

/-! ### The requests -/

/-- A request that its owner refuses in one case and else accepts (09 R146). -/
theorem exec_refusesOrAccepts {i : Instr} {k : Kind} {r : Req} {s after : State} {body : List Byte}
    {bad : Prop} [Decidable bad] {reason : Reason} {detail : Nat} (hi : i.request = some (k, r))
    (h : Hears k r s) (length : bodyLengthOk k r.body = true)
    (verdict : owner k r.body (s.taken k r) = if bad then .refuse reason detail else .accept body after) :
    exec i s = .next (if bad then refuses k r s reason detail else accepts k r s body after) := by
  rw [exec_owned hi h length, verdict]
  split <;> rfl

/-- The latest table with the fresh flags of a mask's channels cleared (04 R68). -/
def ResultStore.carried (r : ResultStore) (mask : Nat) : Vector (Option LatestEntry) 16 :=
  vecOf fun c => if bitOf mask c.val then r.latest[c].map fun e => { e with fresh := false } else r.latest[c]

/-- A channel's entry is cleared where the mask has it, and else stays (04 R68). -/
theorem ResultStore.carried_get (r : ResultStore) (mask : Nat) (c : Fin 16) : (r.carried mask)[c] =
    if mask.testBit c.val = true then r.latest[c].map fun e => { record := e.record, fresh := false }
    else r.latest[c] := vecOf_get _ c.val c.isLt

/-- An item of a READ_LATEST reply: the channel, the two flags above it, and the record (12 §12.6). -/
theorem latestItem_eq (c : Fin 16) (e : Option LatestEntry) : latestItem c e = match e with
    | none => u8 c.val
    | some x => u8 (c.val + (if x.fresh then 64 else 0) + 128) ++ recordBytes x.record := by
  cases e with
  | none => rfl
  | some x =>
    obtain ⟨record, fresh⟩ := x
    cases fresh <;> rfl

theorem ownReadLatest_eq (b : List Byte) (s : State) : ownReadLatest b s =
    .accept (((List.finRange 16).filter fun c => (wordAt b 0).testBit c.val).flatMap fun c =>
        match s.rs.latest[c] with
        | none => u8 c.val
        | some e => u8 (c.val + (if e.fresh then 64 else 0) + 128) ++ recordBytes e.record)
      { s with rs := { s.rs with latest := s.rs.carried (wordAt b 0) } } := by
  unfold ownReadLatest
  simp only [latestItem_eq, allChannels_eq]
  rfl

/-- The level notice rearms below a level that is not 0, the full notice at 192 records (04 R73). -/
theorem ResultStore.rearm_eq (r : ResultStore) : r.rearm = { r with
    levelArmed := r.levelArmed || decide (r.level ≠ 0 ∧ r.fifo.length < r.level)
    fullArmed := r.fullArmed || decide (r.fifo.length ≤ 192) } := by
  have level : (r.level != 0 && decide (r.fifo.length < r.level)) =
      decide (r.level ≠ 0 ∧ r.fifo.length < r.level) := by
    rw [Bool.eq_iff_iff, Bool.and_eq_true, bne_iff_ne, decide_eq_true_eq, decide_eq_true_eq]
  unfold ResultStore.rearm
  rw [level]

/-- READ_FIFO is refused for a count outside 1 to 19; else the oldest records leave and the notices
rearm (04 R73, R74). -/
theorem ownReadFifo_eq (b : List Byte) (s : State) : ownReadFifo b s =
    let most := byteAt b 0
    let rest := s.rs.fifo.drop most
    if most = 0 ∨ 19 < most then .refuse .field 1
    else .accept (u16 rest.length ++ u16 s.rs.dropped ++ (s.rs.fifo.take most).flatMap recordBytes)
      { s with rs := { s.rs with
          fifo := rest
          dropped := 0
          levelArmed := s.rs.levelArmed || decide (s.rs.level ≠ 0 ∧ rest.length < s.rs.level)
          fullArmed := s.rs.fullArmed || decide (rest.length ≤ 192) } } := by
  unfold ownReadFifo
  simp only [Bool.or_eq_true, beq_iff_eq, decide_eq_true_eq, ResultStore.rearm_eq]

/-- SET_FIFO_LEVEL is refused for a level above 384; else its notice is armed by the fill (04 R78). -/
theorem ownSetFifoLevel_eq (b : List Byte) (s : State) : ownSetFifoLevel b s =
    let level := wordAt b 0
    let armed := decide (level = 0 ∨ s.rs.fifo.length < level)
    if 384 < level then .refuse .field 1
    else .accept (u16 level ++ u16 s.rs.fifo.length ++ [if armed then 1 else 0])
      { s with rs := { s.rs with level := level, levelArmed := armed } } := by
  have sent : ∀ c : Bool, u8 (flag c) = [if c then 1 else 0] := by decide
  unfold ownSetFifoLevel
  simp only [sent, Config.fifoSize, Bool.decide_or]
  rfl

/-- Settles O27: the owner's verdict on each of the four. -/
theorem resultRequests : Obligations.ResultRequests := by
  intro r s
  refine ⟨fun h len => ?readLatest, fun h len => ?readFifo, fun h len => ?clearFifo, fun h len => ?setFifoLevel⟩
  case readLatest =>
    exact ⟨s.rs.carried (wordAt r.body 0), s.rs.carried_get _,
      exec_accepts rfl h (by simp [bodyLengthOk, len]) (ownReadLatest_eq ..)⟩
  case readFifo => exact exec_refusesOrAccepts rfl h (by simp [bodyLengthOk, len]) (ownReadFifo_eq ..)
  case clearFifo => exact exec_accepts rfl h (by simp [bodyLengthOk, len]) rfl
  case setFifoLevel => exact exec_refusesOrAccepts rfl h (by simp [bodyLengthOk, len]) (ownSetFifoLevel_eq ..)

end Sys2Proof.Machine
end

section
/-! Only a completing conversion gives out a result sequence (04 R64, R65): every other operation but a reset
leaves the next one as it is. -/

namespace Sys2Proof.Machine

section
variable {s t : State}

/-! ### What leaves the next result sequence as it is -/

/-- Every run of the Scan Engine and every grant leaves it. The next sequence is compared with a number and
not with a state's, so that a completion can use this too. -/
theorem nextSeq_runs (n : BitVec 16) : KeptByRuns fun s => s.rs.nextSeq = n where
  updList _ _ _ h := h
  raise _ _ h := h
  abandon _ h := h
  grant s h := by rw [(makeGrant_only s).rs]; exact h

theorem foldl_nextSeq {α : Type} {f : State → α → State}
    (hf : ∀ (s : State) a, (f s a).rs.nextSeq = s.rs.nextSeq) (l : List α) (s : State) :
    (l.foldl f s).rs.nextSeq = s.rs.nextSeq :=
  foldl_keeps (P := fun t => t.rs.nextSeq = s.rs.nextSeq) (fun t a h => (hf t a).trans h) l s rfl

theorem logEntry_rs (e : LogEntry) (s : State) : (logEntry e s).rs = s.rs := by
  unfold logEntry
  split
  · rfl
  · exact State.raiseIf_rs ..

theorem restartTimer_rs (s : State) : (restartTimer s).rs = s.rs := by
  unfold restartTimer
  split <;> rfl

theorem departRun_rs (target : NodeState) (reason : EndReason) (s : State) :
    (departRun target reason s).rs = s.rs := by
  have ended := (endAllLists_only reason { s with nc := { s.nc with state := target, timer := none } }).rs
  unfold departRun
  dsimp only
  generalize endAllLists reason _ = u at ended ⊢
  exact ended

/-! ### The owners -/

/-- What an owner accepts leaves it: of the requests that change the Result Store none moves the sequence
(04 R68, R74, R77, R78). -/
theorem owner_nextSeq {k : Kind} {b body : List Byte} (h : owner k b s = .accept body t) :
    t.rs.nextSeq = s.rs.nextSeq := by
  have runs := nextSeq_runs s.rs.nextSeq
  cases k with
  | identify | echo | status | readStamp | outputStatus | fifoStatus | restart | readLatest | clearFifo =>
    cases h; rfl
  | mark => cases h; exact congrArg _ (logEntry_rs ..)
  | setChannel | readSteps | listStatus | readFifo | setFifoLevel | clearWatch | watchStatus | readCaptures
  | scheduleStatus | poll =>
    simp only [owner, ownSetChannel, ownReadSteps, ownListStatus, ownReadFifo, ownSetFifoLevel, ownClearWatch,
      ownWatchStatus, ownReadCaptures, ownScheduleStatus, ownPoll] at h
    split at h <;> cases h
    rfl
  | setWatch | clearList | cancelAction =>
    simp only [owner, ownSetWatch, ownClearList, ownCancelAction] at h
    split at h
    · cases h
    · split at h <;> cases h
      rfl
  | writeSteps | defineList =>
    simp only [owner, ownWriteSteps, ownDefineList] at h
    split at h
    · cases h
    · split at h
      · cases h
      · split at h <;> cases h
        rfl
  | schedule =>
    simp only [owner, ownSchedule] at h
    split at h
    · cases h
    · split at h
      · cases h
      · split at h
        · cases h
        · split at h <;> cases h
          rfl
  | setCapture =>
    simp only [owner, ownSetCapture] at h
    split at h <;> cases h
    exact foldl_nextSeq (fun t k => by split <;> rfl) _ _
  | setOutput =>
    simp only [owner, ownSetOutput] at h
    split at h
    · cases h
    · split at h <;> cases h
      exact foldl_nextSeq (fun t k => by split <;> rfl) _ _
  | setSafeLevels =>
    simp only [owner, ownSetSafeLevels] at h
    split at h <;> cases h
    refine foldl_nextSeq (fun t k => ?_) _ _
    split
    · split <;> rfl
    · rfl
  | go =>
    simp only [owner, ownGo] at h
    split at h <;> cases h
    · rfl
    · exact congrArg _ (restartTimer_rs _)
  | halt =>
    simp only [owner, ownHalt] at h
    split at h <;> cases h
    · exact congrArg _ (departRun_rs ..)
    · rfl
    · rfl
  | setSilence =>
    simp only [owner, ownSetSilence] at h
    split at h <;> cases h
    split
    · rfl
    · exact congrArg _ (restartTimer_rs _)
  | convert =>
    simp only [owner, ownConvert] at h
    split at h
    · cases h
    · split at h
      · cases h
      · split at h <;> cases h
        exact congrArg _ (afterPlacing_only _).rs
  | cancelConvert =>
    rw [owner, ownCancelConvert_eq] at h
    split at h
    · cases h
    · split at h
      · cases h; rfl
      · split at h <;> cases h
        · exact runs.grant _ rfl
        · rfl
  | startList => exact runs.ownStartList rfl h
  | stopList => exact runs.ownStopList rfl h

/-! ### The line -/

theorem decideRequest_nextSeq {f : Frame} {body : List Byte} (h : decideRequest f s = .accept body t) :
    t.rs.nextSeq = s.rs.nextSeq := by
  unfold decideRequest at h
  split at h
  · cases h
  · split at h
    · exact owner_nextSeq h
    · cases h

theorem executeAddressed_nextSeq (f : Frame) (s : State) : (executeAddressed f s).rs.nextSeq = s.rs.nextSeq := by
  unfold executeAddressed
  dsimp only
  cases hd : decideRequest f (s.hold (some (f, .executing))) with
  | refuse reason detail => rfl
  | accept body after =>
    have kept := decideRequest_nextSeq hd
    exact kept

theorem takeAddressed_nextSeq (f : Frame) (s : State) : (takeAddressed f s).rs.nextSeq = s.rs.nextSeq := by
  unfold takeAddressed
  split
  · split
    · rfl
    · exact executeAddressed_nextSeq f s
  · exact executeAddressed_nextSeq f s

theorem takeBroadcast_nextSeq (f : Frame) (s : State) : (takeBroadcast f s).rs.nextSeq = s.rs.nextSeq := by
  unfold takeBroadcast
  split
  · split
    · next hd =>
      have kept := decideRequest_nextSeq hd
      exact kept
    · rfl
  · rfl

theorem endFrame_nextSeq (buf : List Byte) (s : State) : (endFrame buf s).rs.nextSeq = s.rs.nextSeq := by
  unfold endFrame
  split
  · rfl
  · split
    · rfl
    · split
      · rfl
      · have timed : ∀ u : State, (restartTimer u).rs.nextSeq = u.rs.nextSeq :=
          fun u => congrArg _ (restartTimer_rs u)
        unfold deliverFrame
        dsimp only
        split
        · exact (takeBroadcast_nextSeq ..).trans (timed _)
        · exact (takeAddressed_nextSeq ..).trans (timed _)

theorem gap_nextSeq (s : State) : (gap s).rs.nextSeq = s.rs.nextSeq := by
  unfold gap
  split
  · rfl
  · split
    · rfl
    · exact endFrame_nextSeq ..
    all_goals rfl

theorem characterComplete_rs (value : Byte) (good : Bool) (s : State) :
    (characterComplete value good s).rs = s.rs := by
  unfold characterComplete
  split <;> rfl

/-- A host's whole frame leaves it, whatever becomes of the frame. -/
theorem hostSends_nextSeq (k : Kind) (r : Req) (s : State) : (hostSends k r s).rs.nextSeq = s.rs.nextSeq :=
  calc (hostSends k r s).rs.nextSeq
    _ = (receiveAll (requestFrame k r).chars (gap s)).rs.nextSeq := gap_nextSeq _
    _ = (gap s).rs.nextSeq := foldl_nextSeq (fun u c => congrArg _ (characterComplete_rs c true u)) _ _
    _ = s.rs.nextSeq := gap_nextSeq s

theorem sendingStart_rs (s : State) : (sendingStart s).rs = s.rs := by
  unfold sendingStart
  split
  · split <;> rfl
  · rfl
  · rfl

/-! ### Events in time -/

/-- What is due leaves it where its effect does. -/
theorem whenDue_nextSeq {due : Option Stamp} {f : State → State}
    (hf : ∀ d, (f (s.advance d)).rs.nextSeq = s.rs.nextSeq) : (s.whenDue due f).rs.nextSeq = s.rs.nextSeq :=
  State.whenDue_keeps (P := fun t => t.rs.nextSeq = s.rs.nextSeq) rfl hf

theorem calibrationEnd_nextSeq (s : State) : (calibrationEnd s).rs.nextSeq = s.rs.nextSeq := by
  unfold calibrationEnd
  split
  · exact whenDue_nextSeq fun d => (nextSeq_runs _).grant _ rfl
  · rfl

theorem checkEnd_nextSeq (charged discharged : BitVec 12) (s : State) :
    (checkEnd charged discharged s).rs.nextSeq = s.rs.nextSeq := by
  unfold checkEnd
  split
  · exact whenDue_nextSeq fun d => rfl
  · rfl

theorem settleEnd_nextSeq (s : State) : (settleEnd s).rs.nextSeq = s.rs.nextSeq := by
  unfold settleEnd
  split
  · exact whenDue_nextSeq fun d => rfl
  · rfl

theorem waitExpiry_nextSeq (k : Fin 8) (s : State) : (waitExpiry k s).rs.nextSeq = s.rs.nextSeq := by
  unfold waitExpiry
  split
  · exact whenDue_nextSeq fun d => (nextSeq_runs _).finishStep rfl
  · rfl

theorem awaitTimeout_nextSeq (k : Fin 8) (s : State) : (awaitTimeout k s).rs.nextSeq = s.rs.nextSeq := by
  unfold awaitTimeout
  split
  · exact whenDue_nextSeq fun d => (nextSeq_runs _).endRun rfl
  · rfl

theorem restReached_nextSeq (k : Fin 8) (s : State) : (restReached k s).rs.nextSeq = s.rs.nextSeq := by
  unfold restReached
  split
  · exact whenDue_nextSeq fun d => (nextSeq_runs _).beginStep rfl
  · rfl

theorem acceptEdge_nextSeq (k : Fin 4) (d : Direction) (stamp : Stamp) (s : State) :
    (acceptEdge k d stamp s).rs.nextSeq = s.rs.nextSeq :=
  (nextSeq_runs _).acceptEdge (congrArg _ (logEntry_rs ..))

theorem pinChanged_nextSeq (k : Fin 4) (v : Level) (s : State) :
    (pinChanged k v s).rs.nextSeq = s.rs.nextSeq := by
  unfold pinChanged
  dsimp only
  split
  · split <;> rfl
  · split
    · rfl
    · split
      · rfl
      · split
        · exact acceptEdge_nextSeq ..
        · rfl

theorem capturePinChange_nextSeq (k : Fin 4) (v : Level) (s : State) :
    (capturePinChange k v s).rs.nextSeq = s.rs.nextSeq := by
  unfold capturePinChange
  split
  · rfl
  · split
    · rfl
    · exact pinChanged_nextSeq ..

theorem debounceEnd_nextSeq (k : Fin 4) (s : State) : (debounceEnd k s).rs.nextSeq = s.rs.nextSeq := by
  unfold debounceEnd
  split
  · split
    · exact whenDue_nextSeq fun d => acceptEdge_nextSeq ..
    · rfl
  · rfl

theorem actionEffect_rs (e : ScheduleEntry) (s : State) : (actionEffect e s).rs = s.rs := by
  unfold actionEffect
  split
  · rfl
  · exact (takeTrigger_only ..).rs

theorem fireFront_rs (s : State) : (fireFront s).rs = s.rs := by
  unfold fireFront
  split
  · rfl
  · exact (State.raiseIf_rs ..).trans (actionEffect_rs ..)

theorem enterSafe_rs (s : State) : (enterSafe s).rs = s.rs := by
  have departed := departRun_rs .safe .nodeSafe s
  unfold enterSafe
  rw [State.raise_rs, safeWrite_eq]
  generalize departRun .safe .nodeSafe s = u at departed ⊢
  exact departed

/-! ### A sample ends -/

theorem watchOutput_rs (w : Fin 12) (a : Option WatchAction) (s : State) : (watchOutput w a s).rs = s.rs := by
  unfold watchOutput
  split
  · split <;> rfl
  · rfl

theorem zoneChanged_rs (w : Fin 12) (d : WatchDef) (old : Option Zone) (new : Zone) (r : Record) (s : State) :
    (zoneChanged w d old new r s).rs = s.rs := by
  unfold zoneChanged
  split
  · rfl
  · exact ((deliver_only ..).rs.trans (watchOutput_rs ..)).trans (State.raiseIf_rs ..)

theorem evaluate_rs (r : Record) (s : State) (w : Fin 12) : (evaluate r s w).rs = s.rs := by
  unfold evaluate
  split
  · rfl
  · split
    · rfl
    · split
      · rfl
      · dsimp only
        split
        · exact zoneChanged_rs ..
        · rfl

/-- The watches leave it as they evaluate a record. -/
theorem evaluateAll_nextSeq (r : Record) (s : State) : (evaluateAll r s).rs.nextSeq = s.rs.nextSeq := by
  unfold evaluateAll
  exact foldl_nextSeq (fun t w => by rw [evaluate_rs]) _ _

/-- A record stored moves it on by one (04 R65). -/
theorem storeRecord_nextSeq (x : Record) (toFifo : Bool) (s : State) :
    (storeRecord x toFifo s).1.rs.nextSeq = s.rs.nextSeq + 1 := by
  have offered : ∀ u : State, (offer x u).1.rs.nextSeq = u.rs.nextSeq := fun u => by
    unfold offer
    split <;> dsimp only <;> rw [State.raiseIf_rs]
  cases toFifo
  · rfl
  · exact offered _

/-- The completion of an owned conversion moves it on by one (02 R39). -/
theorem complete_nextSeq {g : Grant} (c : Context) (owned : s.ca.grant = some g) :
    (complete c s).rs.nextSeq = s.rs.nextSeq + 1 := by
  have runs := nextSeq_runs (s.rs.nextSeq + 1)
  rw [complete_eq c owned]
  exact runs.grant _ (runs.recordToOwner ((evaluateAll_nextSeq ..).trans (storeRecord_nextSeq ..)))

/-- SAMPLE_END moves it only where it ends the last sample of an owned conversion, and then by one. -/
theorem sampleEnd_nextSeq {level : BitVec 12} (moved : (sampleEnd level s).rs.nextSeq ≠ s.rs.nextSeq) :
    ∃ c g, s.resetHeld = false ∧ s.cv.state = .sampling c ∧ s.ca.grant = some g ∧
      c.options.averaging.count ≤ c.samples + 1 ∧ s.reaches c.phaseEnd = true ∧
      (sampleEnd level s).rs.nextSeq = s.rs.nextSeq + 1 := by
  unfold sampleEnd at moved ⊢
  split at moved
  · next c sampling =>
    have due : s.cv.due = some c.phaseEnd := by unfold Converter.due; rw [sampling]
    rw [due] at moved ⊢
    rcases s.whenDue_cases (some c.phaseEnd) (endSample c level) with idle | ⟨d, same, running, reached, ended⟩
    · exact absurd (congrArg (·.rs.nextSeq) idle) moved
    · cases same
      rw [ended] at moved ⊢
      unfold endSample at moved ⊢
      dsimp only at moved ⊢
      split at moved
      · exact absurd rfl moved
      · next last =>
        cases owned : s.ca.grant with
        | none =>
          unfold complete at moved
          rw [State.advance_ca, owned] at moved
          exact absurd rfl moved
        | some g =>
          rw [if_neg last]
          exact ⟨c, g, running, sampling, rfl, Nat.not_lt.mp last, reached, complete_nextSeq _ owned⟩
  · exact absurd rfl moved

/-! ### The resets -/

/-- Its value at a reset, with the stamp 0 (04 R64, 06 R95). -/
def State.RestartsSequences (t : State) : Prop := t.rs.nextSeq = 1 ∧ t.tcu.stamp = 0

theorem por_restarts (straps : Straps) (s : State) : (por straps s).RestartsSequences := by
  unfold por
  split <;> exact ⟨rfl, rfl⟩

theorem pinReset_restarts (moved : (pinReset s).rs.nextSeq ≠ s.rs.nextSeq) :
    (pinReset s).RestartsSequences := by
  unfold pinReset at moved ⊢
  split at moved
  · exact absurd rfl moved
  · next free => rw [if_neg free]; exact ⟨rfl, rfl⟩

theorem pinRelease_restarts {straps : Straps} (moved : (pinRelease straps s).rs.nextSeq ≠ s.rs.nextSeq) :
    (pinRelease straps s).RestartsSequences := by
  unfold pinRelease at moved ⊢
  split at moved
  · next held => rw [if_pos held]; exact ⟨rfl, rfl⟩
  · exact absurd rfl moved

/-- SENDING_END moves it only by the SOFT reset that was pending (11 R179). -/
theorem sendingEnd_restarts (moved : (sendingEnd s).rs.nextSeq ≠ s.rs.nextSeq) :
    s.nc.restartPending = true ∧ (sendingEnd s).RestartsSequences := by
  unfold sendingEnd at moved ⊢
  split at moved
  · dsimp only at moved ⊢
    split at moved
    · next pending => rw [if_pos pending]; exact ⟨pending, rfl, rfl⟩
    · exact absurd rfl moved
  all_goals exact absurd rfl moved

end

/-! ### Every command -/

/-- Settles O60: a request leaves the next result sequence, and so does each event but SAMPLE_END and the
resets. -/
theorem sequencesComeFromCompletions : Obligations.SequencesComeFromCompletions := by
  intro i s t e moved
  cases hi : i.request with
  | some kr =>
    rw [exec_request i kr.1 kr.2 s hi] at e
    cases e
    exact absurd (hostSends_nextSeq ..) moved
  | none =>
    cases i with
    | sampleEnd level =>
      cases e
      obtain ⟨c, g, completes⟩ := sampleEnd_nextSeq moved
      exact .inl ⟨level, c, g, rfl, completes⟩
    | por straps =>
      cases e
      obtain ⟨next, stamp⟩ := por_restarts straps s
      exact .inr ⟨next, stamp, .inl ⟨straps, .inl rfl⟩⟩
    | pinRelease straps =>
      cases e
      obtain ⟨next, stamp⟩ := pinRelease_restarts moved
      exact .inr ⟨next, stamp, .inl ⟨straps, .inr rfl⟩⟩
    | pinReset =>
      cases e
      obtain ⟨next, stamp⟩ := pinReset_restarts moved
      exact .inr ⟨next, stamp, .inr (.inl rfl)⟩
    | sendingEnd =>
      cases e
      obtain ⟨pending, next, stamp⟩ := sendingEnd_restarts moved
      exact .inr ⟨next, stamp, .inr (.inr ⟨rfl, pending⟩)⟩
    | calibrationEnd => cases e; exact absurd (calibrationEnd_nextSeq s) moved
    | gap => cases e; exact absurd (gap_nextSeq s) moved
    | sendingStart => cases e; exact absurd (congrArg _ (sendingStart_rs s)) moved
    | checkEnd charged discharged => cases e; exact absurd (checkEnd_nextSeq ..) moved
    | settleEnd => cases e; exact absurd (settleEnd_nextSeq s) moved
    | waitExpiry k => cases e; exact absurd (waitExpiry_nextSeq k s) moved
    | awaitTimeout k => cases e; exact absurd (awaitTimeout_nextSeq k s) moved
    | restStamp k => cases e; exact absurd (restReached_nextSeq k s) moved
    | capturePinChange k v => cases e; exact absurd (capturePinChange_nextSeq k v s) moved
    | debounceEnd k => cases e; exact absurd (debounceEnd_nextSeq k s) moved
    | actionFiring =>
      cases e
      exact absurd (whenDue_nextSeq fun d => congrArg _ (fireFront_rs (s.advance d))) moved
    | silenceExpiry => cases e; exact absurd (whenDue_nextSeq fun d => congrArg _ (enterSafe_rs (s.advance d))) moved
    | characterComplete value good => cases e; exact absurd (congrArg _ (characterComplete_rs ..)) moved
    | _ => cases hi

end Sys2Proof.Machine
end

section
/-! The Watch Unit: the two requests that change the table, a record evaluated by every watch on its
channel, and what a zone change raises, writes and triggers (05 R79 to R89, R91, R92). -/

namespace Sys2Proof.Machine

/-! ### The requests -/

/-- SET_WATCH of a number above 11 (05 R91). -/
theorem ownSetWatch_number {b : List Byte} (h : below 12 (byteAt b 0) = none) (s : State) :
    ownSetWatch b s = .refuse .field 1 := by
  unfold ownSetWatch
  rw [h]

/-- SET_WATCH of a definition out of range (05 R91). -/
theorem ownSetWatch_error {b : List Byte} {w : Fin 12} {d : Nat} (hw : below 12 (byteAt b 0) = some w)
    (hd : parseWatchDef b = .error d) (s : State) : ownSetWatch b s = .refuse .field d := by
  unfold ownSetWatch
  rw [hw, hd]

/-- SET_WATCH writes the definition, and its outcome says whether one was replaced (05 R91). -/
theorem ownSetWatch_ok {b : List Byte} {w : Fin 12} {d : WatchDef} (hw : below 12 (byteAt b 0) = some w)
    (hd : parseWatchDef b = .ok d) (s : State) : ownSetWatch b s =
      .accept (u8 w.val ++ [if (s.watch w).isSome then 1 else 0]) (s.setWatch w (some (.fresh d))) := by
  have outcome : ∀ c : Bool, u8 (flag c) = [if c then 1 else 0] := by decide
  unfold ownSetWatch
  rw [hw, hd]
  dsimp only
  rw [outcome]

/-- CLEAR_WATCH of a number above 11 (05 R92). -/
theorem ownClearWatch_number {b : List Byte} (h : below 12 (byteAt b 0) = none) (s : State) :
    ownClearWatch b s = .refuse .field 1 := by
  unfold ownClearWatch
  rw [h]

/-- CLEAR_WATCH leaves the entry UNUSED, and its outcome says whether it was already (05 R92). -/
theorem ownClearWatch_ok {b : List Byte} {w : Fin 12} (hw : below 12 (byteAt b 0) = some w) (s : State) :
    ownClearWatch b s =
      .accept (u8 w.val ++ [if (s.watch w).isSome then 1 else 2]) (s.setWatch w none) := by
  have outcome : ∀ c : Bool, u8 (if c then 1 else 2) = [if c then 1 else 2] := by decide
  unfold ownClearWatch
  rw [hw]
  dsimp only
  rw [outcome]

/-- A request that its owner refuses leaves what the refusal leaves. -/
theorem exec_refuses {i : Instr} {k : Kind} {r : Req} {s : State} {reason : Reason} {detail : Nat}
    (hi : i.request = some (k, r)) (h : Hears k r s) (length : bodyLengthOk k r.body = true)
    (verdict : owner k r.body (s.taken k r) = .refuse reason detail) :
    exec i s = .next (refuses k r s reason detail) := by
  rw [exec_owned hi h length, verdict]
  rfl

/-- Settles O28: the owner's verdict by the watch number and then by the definition. -/
theorem watchRequests : Obligations.WatchRequests := by
  intro r s
  refine ⟨fun h len => ?setWatch, fun h len => ?clearWatch⟩
  case setWatch =>
    have length : bodyLengthOk .setWatch r.body = true := by simp [bodyLengthOk, len]
    cases number : below 12 (byteAt r.body 0) with
    | none => exact exec_refuses rfl h length (ownSetWatch_number number _)
    | some w =>
      cases definition : parseWatchDef r.body with
      | error d => exact exec_refuses rfl h length (ownSetWatch_error number definition _)
      | ok d => exact exec_accepts rfl h length (ownSetWatch_ok number definition _)
  case clearWatch =>
    have length : bodyLengthOk .clearWatch r.body = true := by simp [bodyLengthOk, len]
    cases number : below 12 (byteAt r.body 0) with
    | none => exact exec_refuses rfl h length (ownClearWatch_number number _)
    | some w => exact exec_accepts rfl h length (ownClearWatch_ok number _)

/-! ### A record evaluated -/

/-- A record that points to the present zone leaves no pending zone (05 R84 step 1). -/
theorem confirmZone_same {e : WatchEntry} {c : Zone} (same : e.zone = some c) (seq : BitVec 16) :
    confirmZone e c seq = ({ e with pending := none, count := 0 }, false) := if_pos same

/-- A record that points to another zone is counted, and the zone changes with the last of the confirm
count (05 R84 steps 2 to 4). -/
theorem confirmZone_other {e : WatchEntry} {c : Zone} (other : e.zone ≠ some c) (seq : BitVec 16) :
    confirmZone e c seq = if agreeing e c = e.defn.confirm then
        ({ e with zone := some c, pending := none, count := 0, zoneSeq := some seq }, true)
      else ({ e with pending := some c, count := agreeing e c }, false) := if_neg other

section
variable {x : Record} {s : State} {w : Fin 12} {e : WatchEntry}

/-- An UNUSED entry is not touched (05 R81). -/
theorem evaluate_unused (unused : s.watch w = none) : evaluate x s w = s := by
  unfold evaluate
  rw [unused]

/-- A watch on another channel is not touched (05 R81). -/
theorem evaluate_elsewhere (defined : s.watch w = some e) (elsewhere : e.defn.channel ≠ x.channel) :
    evaluate x s w = s := by
  unfold evaluate
  rw [defined]
  exact if_pos elsewhere

/-- An OPEN record is skipped and leaves no pending zone (05 R82). -/
theorem evaluate_open (defined : s.watch w = some e) (here : e.defn.channel = x.channel)
    (isOpen : x.flags.openInput = true) : evaluate x s w = s.setWatch w (some e.settle) := by
  unfold evaluate
  rw [defined]
  dsimp only
  rw [if_neg (not_not_intro here), if_pos isOpen]

/-- Any other record of the channel is confirmed or counted, and a change of zone follows (05 R83 to
R85). -/
theorem evaluate_valued (defined : s.watch w = some e) (here : e.defn.channel = x.channel)
    (valued : x.flags.openInput = false) : evaluate x s w =
      let c := candidate e.defn e.zone x.value
      let after := confirmZone e c x.seq
      if after.2 = true then zoneChanged w e.defn e.zone c x (s.setWatch w (some after.1))
      else s.setWatch w (some after.1) := by
  unfold evaluate
  rw [defined]
  dsimp only
  rw [if_neg (not_not_intro here), if_neg (ne_true_of_eq_false valued)]

end

/-- Settles O29: the candidate zone, its confirmation, the watches in order, and one watch by its case. -/
theorem watchEvaluation : Obligations.WatchEvaluation := by
  refine ⟨fun d value => ⟨rfl, rfl, rfl, rfl⟩,
    fun e c seq => ⟨fun same => confirmZone_same same seq, fun other => confirmZone_other other seq⟩,
    fun x s => ?order, fun x s w => ⟨evaluate_unused, fun e defined => ⟨evaluate_elsewhere defined,
      evaluate_open defined, evaluate_valued defined⟩⟩⟩
  case order =>
    unfold evaluateAll
    rw [allWatches_eq]

/-! ### A zone change -/

/-- An output action in RUN writes its line with source WATCH (05 R88). -/
theorem watchOutput_run {w : Fin 12} {a : Option WatchAction} {s : State} {line : Fin 4} {level : Level}
    (writes : a.bind WatchAction.output = some (line, level)) (running : s.nc.state = .run) :
    watchOutput w a s = s.writeLine line level (.watch w) := by
  obtain ⟨⟨notify, output⟩, rfl, rfl⟩ := Option.bind_eq_some_iff.mp writes
  exact if_pos running

/-- No line is written without an output action, or outside RUN (05 R88). -/
theorem watchOutput_idle (w : Fin 12) {a : Option WatchAction} {s : State}
    (idle : a.bind WatchAction.output = none ∨ s.nc.state ≠ .run) : watchOutput w a s = s := by
  unfold watchOutput
  split
  · exact if_neg (idle.resolve_left nofun)
  · rfl

/-- The node after the notice of a crossing, raised where the new zone's action notifies (05 R87). -/
def State.zoneNoted (w : Fin 12) (d : WatchDef) (old new : Zone) (x : Record) (s : State) : State :=
  s.raiseIf (((d.action new).map WatchAction.notify).getD false) (zoneNotice w d (some old) new x)

section
variable {w : Fin 12} {d : WatchDef} {old new : Zone} {x : Record} {s : State}

@[simp] theorem State.zoneNoted_tcu : (s.zoneNoted w d old new x).tcu = s.tcu := State.raiseIf_tcu ..
@[simp] theorem State.zoneNoted_ou : (s.zoneNoted w d old new x).ou = s.ou := State.raiseIf_ou ..
@[simp] theorem State.zoneNoted_nc : (s.zoneNoted w d old new x).nc = s.nc := State.raiseIf_nc ..

/-- The notice of a crossing, or none (05 R87). -/
theorem State.zoneNoted_eq :
    s.zoneNoted w d old new x = if ((d.action new).map WatchAction.notify).getD false = true then
        { s with
          nq := s.nq.raise s.tcu.stamp (.watchZone w d.channel (some old) (some new) false x.value x.seq) }
      else s := State.raiseIf_eq ..

/-- A crossing takes its notice, its output and its trigger, in that order (05 R86). -/
theorem zoneChanged_crossing : zoneChanged w d (some old) new x s =
    deliver true (.watch w new) (watchOutput w (d.action new) (s.zoneNoted w d old new x)) := rfl

/-- A crossing that writes a line: the notice before it leaves the node state, the lines and the stamp
(05 R88, 06 R109). -/
theorem zoneChanged_writes {line : Fin 4} {level : Level}
    (writes : (d.action new).bind WatchAction.output = some (line, level)) (running : s.nc.state = .run) :
    zoneChanged w d (some old) new x s = deliver true (.watch w new) { s.zoneNoted w d old new x with
      ou := { (s.zoneNoted w d old new x).ou with
        lines := s.ou.lines.set line
          { s.line line with level := level, source := .watch w, stamp := s.tcu.stamp } } } := by
  rw [zoneChanged_crossing, watchOutput_run writes (by rw [State.zoneNoted_nc, running])]
  simp only [State.writeLine, State.updLine, State.line, State.now, State.zoneNoted_ou, State.zoneNoted_tcu]

/-- A crossing that writes no line (05 R88). -/
theorem zoneChanged_unwritten (idle : (d.action new).bind WatchAction.output = none ∨ s.nc.state ≠ .run) :
    zoneChanged w d (some old) new x s = deliver true (.watch w new) (s.zoneNoted w d old new x) := by
  rw [zoneChanged_crossing, watchOutput_idle w (by rwa [State.zoneNoted_nc])]

end

/-- Settles O30: the initial zone's notice, and a crossing with and without a line to write. -/
theorem zoneChangeConsequences : Obligations.ZoneChangeConsequences := by
  intro w d new x s
  refine ⟨rfl, fun old => ?crossing⟩
  case crossing =>
    intro action noted
    have named : noted = s.zoneNoted w d old new x := State.zoneNoted_eq.symm
    rw [named]
    exact ⟨fun line level writes running => zoneChanged_writes writes running, zoneChanged_unwritten⟩

end Sys2Proof.Machine
end

section
/-! In SAFE every line is at its safe level, and only the silence timer enters SAFE (06 R112, 11 R171, R176).
`State.Secures` says of an operation that it keeps the first and does not do the second; every command but
SILENCE_EXPIRY is such. -/

namespace Sys2Proof.Machine

/-! ### What holds outside RUN -/

/-- Outside RUN nothing is scheduled (07 R125), and in SAFE every line is at its safe level (06 R112). -/
structure State.Guarded (s : State) : Prop where
  table : s.nc.state ≠ .run → s.su.table = []
  lines : s.LinesSafe

/-- From `s` to `t` a node that is guarded stays so, and SAFE is not entered. -/
structure State.Secures (s t : State) : Prop where
  guarded : s.Guarded → t.Guarded
  outside : t.nc.state = .safe → s.nc.state = .safe

namespace State.Secures

variable {s t u : State}

theorem refl (s : State) : s.Secures s := ⟨id, id⟩

theorem trans (h : s.Secures t) (g : t.Secures u) : s.Secures u :=
  ⟨g.guarded ∘ h.guarded, h.outside ∘ g.outside⟩

/-- Where the node state and the schedule are the same, the lines are what is left to see to. -/
theorem of_lines (state : t.nc.state = s.nc.state) (table : t.su.table = s.su.table)
    (lines : t.nc.state = .safe → s.LinesSafe → t.LinesSafe) : s.Secures t where
  guarded g :=
    { table := fun outside => table.trans (g.table (state ▸ outside))
      lines := fun safe => lines safe g.lines safe }
  outside safe := state ▸ safe

theorem of_same (state : t.nc.state = s.nc.state) (table : t.su.table = s.su.table) (ou : t.ou = s.ou) :
    s.Secures t :=
  of_lines state table fun _ lines safe k => by
    unfold State.line
    rw [ou]
    exact lines (state ▸ safe) k

/-- A node in RUN owes nothing. -/
theorem of_run (run : t.nc.state = .run) : s.Secures t where
  guarded _ := ⟨fun outside => absurd run outside, fun safe => nomatch run.symm.trans safe⟩
  outside safe := nomatch run.symm.trans safe

/-- A node in STANDBY owes an empty schedule. -/
theorem of_standby (standby : t.nc.state = .standby) (table : s.Guarded → t.su.table = []) : s.Secures t where
  guarded g := ⟨fun _ => table g, fun safe => nomatch standby.symm.trans safe⟩
  outside safe := nomatch standby.symm.trans safe

end State.Secures

section
variable {s t : State}

/-- Every run of the Scan Engine and every grant leaves the node state, the schedule and the lines. -/
theorem secures_runs (s : State) : KeptByRuns s.Secures where
  updList _ _ _ h := h.trans (.of_same rfl rfl rfl)
  raise _ _ h := h.trans (.of_same rfl rfl rfl)
  abandon _ h := h.trans (.of_same rfl rfl rfl)
  grant t h :=
    have only := makeGrant_only t
    h.trans (.of_same (by rw [only.nc]) (by rw [only.su]) only.ou)

theorem State.Secures.raiseIf (h : s.Secures t) (c : Bool) (b : NoticeBody) : s.Secures (t.raiseIf c b) :=
  (secures_runs s).raiseIf h c b

theorem foldl_secures {α : Type} {f : State → α → State} (hf : ∀ (s : State) a, s.Secures (f s a)) (l : List α)
    (s : State) : s.Secures (l.foldl f s) :=
  foldl_keeps (P := s.Secures) (fun t a h => h.trans (hf t a)) l s (.refl s)

/-- A line changed, and in SAFE to its safe level. -/
theorem updLine_secures {k : Fin 4} {f : OutputLine → OutputLine}
    (level : s.nc.state = .safe → (f (s.line k)).level = (f (s.line k)).safe) : s.Secures (s.updLine k f) :=
  .of_lines rfl rfl fun safe lines _ j => by
    rw [State.line_updLine]
    split
    · exact level safe
    · exact lines safe j

/-- A line written outside SAFE (06 R110, 05 R88, 07 R120). -/
theorem writeLine_secures (outside : s.nc.state ≠ .safe) (k : Fin 4) (v : Level) (x : LineSource) :
    s.Secures (s.writeLine k v x) := updLine_secures fun safe => absurd safe outside

theorem restartTimer_secures (s : State) : s.Secures (restartTimer s) := by
  unfold restartTimer
  split
  · exact .of_same rfl rfl rfl
  · exact .refl s

theorem logEntry_secures (e : LogEntry) (s : State) : s.Secures (logEntry e s) := by
  unfold logEntry
  split
  · exact .of_same rfl rfl rfl
  · refine State.Secures.raiseIf ?_ _ _
    exact .of_same rfl rfl rfl

/-! ### The owners -/

/-- A departure leaves nothing scheduled (07 R125). -/
theorem departRun_control (target : NodeState) (reason : EndReason) (s : State) :
    (departRun target reason s).nc.state = target ∧ (departRun target reason s).su.table = [] := by
  have only := endAllLists_only reason { s with nc := { s.nc with state := target, timer := none } }
  rw [departRun_eq]
  dsimp only
  rw [only.nc]
  exact ⟨rfl, rfl⟩

/-- SET_OUTPUT is accepted outside SAFE only (06 R110). -/
theorem ownSetOutput_secures {b body : List Byte} (h : ownSetOutput b s = .accept body t) : s.Secures t := by
  unfold ownSetOutput at h
  split at h
  · cases h
  · split at h <;> cases h
    next outside =>
    refine (foldl_keeps (P := fun u => u.nc.state ≠ .safe ∧ s.Secures u) (fun u k hu => ?_) allFour s
      ⟨outside, .refl s⟩).2
    split
    · exact ⟨hu.1, hu.2.trans (writeLine_secures hu.1 ..)⟩
    · exact hu

/-- SET_SAFE_LEVELS writes a line in SAFE to the safe level it gives it (06 R111). -/
theorem ownSetSafeLevels_secures {b body : List Byte} (h : ownSetSafeLevels b s = .accept body t) :
    s.Secures t := by
  unfold ownSetSafeLevels at h
  split at h <;> cases h
  refine foldl_secures (fun u k => ?_) allFour s
  split
  · next v _ =>
    dsimp only
    split
    · refine .of_lines rfl rfl fun safe lines _ j => ?_
      unfold State.writeLine
      rw [State.line_updLine, State.line_updLine_self]
      split
      · rfl
      · next other =>
        rw [State.line_updLine_ne _ _ _ _ other]
        exact lines safe j
    · next outside => exact updLine_secures fun safe => absurd safe outside
  · exact .refl u

/-- What an owner accepts: GO enters RUN and HALT enters STANDBY, and no other request moves the node state. -/
theorem owner_secures {k : Kind} {b body : List Byte} (h : owner k b s = .accept body t) : s.Secures t := by
  have runs := secures_runs s
  cases k with
  | identify | echo | status | readStamp | outputStatus | fifoStatus | restart | readLatest | clearFifo =>
    cases h; exact .of_same rfl rfl rfl
  | mark => cases h; exact logEntry_secures ..
  | setChannel | readSteps | listStatus | readFifo | setFifoLevel | clearWatch | watchStatus | readCaptures
  | scheduleStatus | poll =>
    simp only [owner, ownSetChannel, ownReadSteps, ownListStatus, ownReadFifo, ownSetFifoLevel, ownClearWatch,
      ownWatchStatus, ownReadCaptures, ownScheduleStatus, ownPoll] at h
    split at h <;> cases h
    exact .of_same rfl rfl rfl
  | setWatch | clearList =>
    simp only [owner, ownSetWatch, ownClearList] at h
    split at h
    · cases h
    · split at h <;> cases h
      exact .of_same rfl rfl rfl
  | writeSteps | defineList =>
    simp only [owner, ownWriteSteps, ownDefineList] at h
    split at h
    · cases h
    · split at h
      · cases h
      · split at h <;> cases h
        exact .of_same rfl rfl rfl
  | cancelAction =>
    simp only [owner, ownCancelAction] at h
    split at h
    · cases h
    · split at h <;> cases h
      exact { guarded := fun g => ⟨fun outside => by simp [g.table outside], g.lines⟩, outside := id }
  | schedule =>
    simp only [owner, ownSchedule] at h
    split at h
    · cases h
    · split at h
      · cases h
      · next run =>
        split at h
        · cases h
        · split at h <;> cases h
          exact .of_run (not_not.mp run)
  | setCapture =>
    simp only [owner, ownSetCapture] at h
    split at h <;> cases h
    exact foldl_secures (fun t k => by split <;> exact .of_same rfl rfl rfl) _ _
  | setOutput => exact ownSetOutput_secures h
  | setSafeLevels => exact ownSetSafeLevels_secures h
  | go =>
    simp only [owner, ownGo] at h
    split at h <;> cases h
    · exact .refl s
    · have entered : s.Secures { s with nc := { s.nc with state := .run } } := .of_run rfl
      exact entered.trans (restartTimer_secures _)
  | halt =>
    simp only [owner, ownHalt] at h
    split at h <;> cases h
    · have departed := departRun_control .standby .nodeHalt s
      exact .of_standby departed.1 fun _ => departed.2
    · next safe => exact .of_standby rfl fun g => g.table (by simp [safe])
    · exact .refl s
  | setSilence =>
    simp only [owner, ownSetSilence] at h
    split at h <;> cases h
    split
    · exact .of_same rfl rfl rfl
    · have set : s.Secures { s with nc := { s.nc with silence := wordAt b 0 } } := .of_same rfl rfl rfl
      exact set.trans (restartTimer_secures _)
  | convert =>
    simp only [owner, ownConvert] at h
    split at h
    · cases h
    · split at h
      · cases h
      · split at h <;> cases h
        exact runs.afterPlacing (.of_same rfl rfl rfl)
  | cancelConvert =>
    rw [owner, ownCancelConvert_eq] at h
    split at h
    · cases h
    · split at h
      · cases h; exact .of_same rfl rfl rfl
      · split at h <;> cases h
        · exact runs.grant _ (.of_same rfl rfl rfl)
        · exact .refl s
  | startList => exact runs.ownStartList (.refl s) h
  | stopList => exact runs.ownStopList (.refl s) h

/-! ### The line -/

theorem decideRequest_secures {f : Frame} {body : List Byte} (h : decideRequest f s = .accept body t) :
    s.Secures t := by
  unfold decideRequest at h
  split at h
  · cases h
  · split at h
    · exact owner_secures h
    · cases h

theorem executeAddressed_secures (f : Frame) (s : State) : s.Secures (executeAddressed f s) := by
  have held : s.Secures (s.hold (some (f, .executing))) := .of_same rfl rfl rfl
  have sent : ∀ u reply, s.Secures u → s.Secures ((u.cache f reply).send f reply) :=
    fun u reply hu => hu.trans (.of_same rfl rfl rfl)
  unfold executeAddressed
  dsimp only
  cases decided : decideRequest f (s.hold (some (f, .executing))) with
  | refuse reason detail => exact sent _ _ held
  | accept body after => exact sent _ _ (held.trans (decideRequest_secures decided))

theorem takeAddressed_secures (f : Frame) (s : State) : s.Secures (takeAddressed f s) := by
  unfold takeAddressed
  split
  · split
    · exact .of_same rfl rfl rfl
    · exact executeAddressed_secures f s
  · exact executeAddressed_secures f s

theorem takeBroadcast_secures (f : Frame) (s : State) : s.Secures (takeBroadcast f s) := by
  unfold takeBroadcast
  split
  · split
    · next body after decided =>
      have held : s.Secures (s.hold (some (f, .executing))) := .of_same rfl rfl rfl
      exact (held.trans (decideRequest_secures decided)).trans (.of_same rfl rfl rfl)
    · exact .refl s
  · exact .of_same rfl rfl rfl

theorem endFrame_secures (buf : List Byte) (s : State) : s.Secures (endFrame buf s) := by
  have counted : ∀ f, s.Secures (s.count f) := fun f => .of_same rfl rfl rfl
  unfold endFrame
  split
  · exact counted _
  · split
    · exact counted _
    · split
      · exact counted _
      · unfold deliverFrame
        dsimp only
        have heard := (counted fun c => { c with good := saturate (c.good + 1) }).trans (restartTimer_secures _)
        split
        · exact heard.trans (takeBroadcast_secures ..)
        · exact heard.trans (takeAddressed_secures ..)

theorem gap_secures (s : State) : s.Secures (gap s) := by
  have ready : s.Secures (s.setRx .ready) := .of_same rfl rfl rfl
  unfold gap
  split
  · exact .refl s
  · split
    · exact .refl s
    · exact ready.trans (endFrame_secures ..)
    all_goals exact ready

theorem characterComplete_secures (value : Byte) (good : Bool) (s : State) :
    s.Secures (characterComplete value good s) := by
  unfold characterComplete
  split
  · exact .refl s
  · exact .of_same rfl rfl rfl

/-- A host's whole frame, whatever becomes of it. -/
theorem hostSends_secures (k : Kind) (r : Req) (s : State) : s.Secures (hostSends k r s) :=
  have received := foldl_secures (fun u c => characterComplete_secures c true u) (requestFrame k r).chars (gap s)
  ((gap_secures s).trans received).trans (gap_secures _)

theorem sendingStart_secures (s : State) : s.Secures (sendingStart s) := by
  unfold sendingStart
  split
  · split <;> exact .of_same rfl rfl rfl
  · exact .refl s
  · exact .refl s

/-- Every reset leaves the node in STANDBY with nothing scheduled (11 R170, R179). -/
theorem sendingEnd_secures (s : State) : s.Secures (sendingEnd s) := by
  unfold sendingEnd
  split
  · dsimp only
    split
    · exact .of_standby rfl fun _ => rfl
    · exact .of_same rfl rfl rfl
  · exact .refl s
  · exact .refl s

theorem por_secures (straps : Straps) (s : State) : s.Secures (por straps s) := by
  unfold por
  split <;> exact .of_standby rfl fun _ => rfl

theorem pinReset_secures (s : State) : s.Secures (pinReset s) := by
  unfold pinReset
  split
  · exact .refl s
  · exact .of_standby rfl fun _ => rfl

theorem pinRelease_secures (straps : Straps) (s : State) : s.Secures (pinRelease straps s) := by
  unfold pinRelease
  split
  · exact .of_standby rfl fun _ => rfl
  · exact .refl s

/-! ### Events in time -/

/-- What is due keeps the node guarded where its effect at its stamp does. -/
theorem whenDue_secures {due : Option Stamp} {f : State → State}
    (hf : ∀ d, (s.advance d).Secures (f (s.advance d))) : s.Secures (s.whenDue due f) := by
  have advanced : ∀ d, s.Secures (s.advance d) := fun d => .of_same rfl rfl rfl
  exact State.whenDue_keeps (P := s.Secures) (.refl s) fun d => (advanced d).trans (hf d)

theorem calibrationEnd_secures (s : State) : s.Secures (calibrationEnd s) := by
  unfold calibrationEnd
  split
  · exact whenDue_secures fun d => (secures_runs _).grant _ (.of_same rfl rfl rfl)
  · exact .refl s

theorem checkEnd_secures (charged discharged : BitVec 12) (s : State) :
    s.Secures (checkEnd charged discharged s) := by
  unfold checkEnd
  split
  · exact whenDue_secures fun d => .of_same rfl rfl rfl
  · exact .refl s

theorem settleEnd_secures (s : State) : s.Secures (settleEnd s) := by
  unfold settleEnd
  split
  · exact whenDue_secures fun d => .of_same rfl rfl rfl
  · exact .refl s

theorem waitExpiry_secures (k : Fin 8) (s : State) : s.Secures (waitExpiry k s) := by
  unfold waitExpiry
  split
  · exact whenDue_secures fun d => (secures_runs _).finishStep (.refl _)
  · exact .refl s

theorem awaitTimeout_secures (k : Fin 8) (s : State) : s.Secures (awaitTimeout k s) := by
  unfold awaitTimeout
  split
  · exact whenDue_secures fun d => (secures_runs _).endRun (.refl _)
  · exact .refl s

theorem restReached_secures (k : Fin 8) (s : State) : s.Secures (restReached k s) := by
  unfold restReached
  split
  · exact whenDue_secures fun d => (secures_runs _).beginStep (.of_same rfl rfl rfl)
  · exact .refl s

theorem acceptEdge_secures (k : Fin 4) (d : Direction) (stamp : Stamp) (s : State) :
    s.Secures (acceptEdge k d stamp s) := (secures_runs s).acceptEdge (logEntry_secures ..)

theorem updInput_secures (s : State) (k : Fin 4) (f : CaptureInput → CaptureInput) :
    s.Secures (s.updInput k f) := .of_same rfl rfl rfl

theorem pinChanged_secures (k : Fin 4) (v : Level) (s : State) : s.Secures (pinChanged k v s) := by
  unfold pinChanged
  dsimp only
  split
  · split
    · exact updInput_secures ..
    · exact .refl s
  · split
    · exact .refl s
    · split
      · exact updInput_secures ..
      · split
        · exact (updInput_secures ..).trans (acceptEdge_secures ..)
        · exact updInput_secures ..

theorem capturePinChange_secures (k : Fin 4) (v : Level) (s : State) : s.Secures (capturePinChange k v s) := by
  have moved : s.Secures (s.setPin k v) := .of_same rfl rfl rfl
  unfold capturePinChange
  split
  · exact .refl s
  · split
    · exact moved
    · exact moved.trans (pinChanged_secures ..)

theorem debounceEnd_secures (k : Fin 4) (s : State) : s.Secures (debounceEnd k s) := by
  unfold debounceEnd
  split
  · split
    · refine whenDue_secures fun d => ?_
      unfold endDebounce
      exact (updInput_secures ..).trans (acceptEdge_secures ..)
    · exact .refl s
  · exact .refl s

/-- An action fires in RUN only, since outside it nothing is scheduled (07 R125). -/
theorem fireFront_secures (s : State) : s.Secures (fireFront s) := by
  unfold fireFront
  split
  · exact .refl s
  · next e rest front =>
    have same : (((actionEffect e s).raiseIf e.notify (.actionFired e.handle e.action e.repeatsAfter)).setTable
        (tableAfter s.now e rest)).nc = s.nc := by
      rw [State.setTable_nc, State.raiseIf_nc]
      unfold actionEffect
      split
      · rfl
      · exact (takeTrigger_only ..).nc
    refine { guarded := fun g => ?_, outside := fun safe => same ▸ safe }
    have run : s.nc.state = .run := by
      by_contra outside
      rw [g.table outside] at front
      cases front
    exact (State.Secures.of_run (s := s) (same ▸ run)).guarded g

/-! ### A sample ends -/

theorem offer_secures (x : Record) (s : State) : s.Secures (offer x s).1 := by
  unfold offer
  split
  all_goals
    refine State.Secures.raiseIf ?_ _ _
    exact .of_same rfl rfl rfl

theorem storeRecord_secures (x : Record) (toFifo : Bool) (s : State) : s.Secures (storeRecord x toFifo s).1 := by
  have placed : s.Secures { s with rs := s.rs.place x } := .of_same rfl rfl rfl
  unfold storeRecord
  dsimp only
  split
  · exact placed.trans (offer_secures ..)
  · exact placed

/-- A watch writes a line in RUN only (05 R88). -/
theorem watchOutput_secures (w : Fin 12) (a : Option WatchAction) (s : State) : s.Secures (watchOutput w a s) := by
  unfold watchOutput
  split
  · split
    · next run => exact writeLine_secures (by simp [run]) ..
    · exact .refl s
  · exact .refl s

theorem zoneChanged_secures (w : Fin 12) (d : WatchDef) (old : Option Zone) (new : Zone) (r : Record) (s : State) :
    s.Secures (zoneChanged w d old new r s) := by
  unfold zoneChanged
  split
  · exact .of_same rfl rfl rfl
  · exact (secures_runs s).deliver (((State.Secures.refl s).raiseIf _ _).trans (watchOutput_secures ..))

theorem evaluate_secures (r : Record) (s : State) (w : Fin 12) : s.Secures (evaluate r s w) := by
  have written : ∀ e, s.Secures (s.setWatch w e) := fun e => .of_same rfl rfl rfl
  unfold evaluate
  split
  · exact .refl s
  · split
    · exact .refl s
    · split
      · exact written _
      · dsimp only
        split
        · exact (written _).trans (zoneChanged_secures ..)
        · exact written _

theorem complete_secures (c : Context) (s : State) : s.Secures (complete c s) := by
  have runs := secures_runs s
  have closed : s.Secures s.abandon := .of_same rfl rfl rfl
  unfold complete
  split
  · exact closed
  · dsimp only
    exact runs.grant _ (runs.recordToOwner
      ((closed.trans (storeRecord_secures ..)).trans (foldl_secures (evaluate_secures _) allWatches _)))

theorem sampleEnd_secures (level : BitVec 12) (s : State) : s.Secures (sampleEnd level s) := by
  unfold sampleEnd
  split
  · refine whenDue_secures fun d => ?_
    unfold endSample
    dsimp only
    split
    · exact .of_same rfl rfl rfl
    · exact complete_secures ..
  · exact .refl s

/-! ### Every command -/

/-- Every command but SILENCE_EXPIRY keeps the node guarded and out of SAFE. -/
theorem exec_secures {i : Instr} (other : i ≠ .silenceExpiry) (e : exec i s = .next t) : s.Secures t := by
  cases hi : i.request with
  | some kr =>
    rw [exec_request i kr.1 kr.2 s hi] at e
    cases e
    exact hostSends_secures ..
  | none =>
    cases i with
    | por straps => cases e; exact por_secures ..
    | pinReset => cases e; exact pinReset_secures s
    | pinRelease straps => cases e; exact pinRelease_secures ..
    | calibrationEnd => cases e; exact calibrationEnd_secures s
    | gap => cases e; exact gap_secures s
    | sendingStart => cases e; exact sendingStart_secures s
    | sendingEnd => cases e; exact sendingEnd_secures s
    | checkEnd charged discharged => cases e; exact checkEnd_secures ..
    | settleEnd => cases e; exact settleEnd_secures s
    | sampleEnd level => cases e; exact sampleEnd_secures ..
    | waitExpiry k => cases e; exact waitExpiry_secures ..
    | awaitTimeout k => cases e; exact awaitTimeout_secures ..
    | restStamp k => cases e; exact restReached_secures ..
    | capturePinChange k v => cases e; exact capturePinChange_secures ..
    | debounceEnd k => cases e; exact debounceEnd_secures ..
    | actionFiring => cases e; exact whenDue_secures fun d => fireFront_secures _
    | characterComplete value good => cases e; exact characterComplete_secures ..
    | silenceExpiry => exact absurd rfl other
    | _ => cases hi

/-- A node that enters SAFE has its schedule dropped and every line written to its safe level (06 R112). -/
theorem enterSafe_guarded (s : State) : (enterSafe s).Guarded := by
  rw [enterSafe_eq rfl]
  exact ⟨fun _ => rfl, fun _ k => by simp [State.line]⟩

/-- Every command leaves a guarded node guarded. -/
theorem exec_guarded {i : Instr} (g : s.Guarded) (e : exec i s = .next t) : t.Guarded := by
  by_cases silence : i = .silenceExpiry
  · subst silence
    cases e
    exact State.whenDue_keeps g fun d => enterSafe_guarded _
  · exact (exec_secures silence e).guarded g

/-- So does every step. -/
theorem step_guarded (g : s.Guarded) (e : step s = .next t) : t.Guarded := by
  cases pending : s.pending with
  | cons i rest =>
    unfold step at e
    rw [pending] at e
    exact exec_guarded (s := s.withPending rest) ⟨g.table, g.lines⟩ e
  | nil =>
    rw [step_idle pending] at e
    rcases idleStep_cases s with ticked | ⟨i, -, running, taken⟩
    · rw [ticked] at e
      cases e
      unfold tick
      split
      · exact g
      · exact ⟨g.table, g.lines⟩
    · rw [taken] at e
      exact exec_guarded (s := s.useFree) ⟨g.table, g.lines⟩ e

/-- Settles O59: every step keeps the node guarded, and SILENCE_EXPIRY, the one command that enters SAFE,
needs the timer to run, which it does in RUN only. -/
theorem safeHoldsLines : Obligations.SafeHoldsLines := by
  refine ⟨fun s t quiet safe e => ?_, fun i s t quiet e entered before => ?_⟩
  · exact (step_guarded ⟨fun outside => (quiet outside).2.1, safe⟩ e).lines
  · by_cases silence : i = .silenceExpiry
    · subst silence
      cases e
      rcases s.whenDue_cases s.nc.timer enterSafe with idle | ⟨d, timer, -, -, -⟩
      · exact absurd (idle ▸ entered) before
      · have runs : s.nc.timer.isSome = true := by rw [timer]; rfl
        refine ⟨rfl, ?_, runs⟩
        by_contra outside
        obtain ⟨-, -, stopped⟩ := quiet outside
        rw [stopped] at runs
        cases runs
    · exact absurd ((exec_secures silence e).outside entered) before

end

end Sys2Proof.Machine
end

section
/-! A capture pin changes (06 R100, R101): each case of the Timebase and Capture Unit's decision, once. -/

namespace Sys2Proof.Machine

theorem directionTo_eq (v : Level) : directionTo v = if v = .high then .rising else .falling := by
  cases v <;> rfl

/-- The changes that an edge select leaves out (06 R100). -/
theorem admits_eq_false_iff (e : EdgeSelect) (d : Direction) : e.admits d = false ↔
    e = .off ∨ (e = .rising ∧ d = .falling) ∨ (e = .falling ∧ d = .rising) := by
  cases e <;> cases d <;> decide

section
variable {k : Fin 4} {v : Level} {s : State}

/-- A pin that already holds the level does not change. -/
theorem capturePinChange_same (same : s.tcu.pins[k] = v) : capturePinChange k v s = s := if_pos same

/-- A pin of a running node changes, and the unit decides what to make of it. -/
theorem capturePinChange_moved (running : s.resetHeld = false) (moved : s.tcu.pins[k] ≠ v) :
    capturePinChange k v s = pinChanged k v (s.setPin k v) := by
  unfold capturePinChange
  rw [if_neg moved, if_neg (by simp [running])]

/-- A change to the level that is being debounced, or to the settled one with no context, is no edge. -/
theorem pinChanged_idle (idle : (s.input k).context.isSome = true ∧ v ≠ (s.input k).settled ∨
    (s.input k).context = none ∧ v = (s.input k).settled) : pinChanged k v s = s := by
  unfold pinChanged
  rcases idle with ⟨context, away⟩ | ⟨none, settled⟩
  · simp only [context, away, if_true, if_false]
  · simp only [none, ← settled, Option.isSome_none, Bool.false_eq_true, if_true, if_false]

/-- A return to the settled level ends a context with nothing recorded (06 R101). -/
theorem pinChanged_returned (context : (s.input k).context.isSome = true) (settled : v = (s.input k).settled) :
    pinChanged k v s = s.updInput k fun i => { i with context := none } := by
  unfold pinChanged
  simp only [context, ← settled, if_true]

/-- A change away from the settled level, with no context (06 R100): settled at once where the edge select
leaves the change out, accepted at once without a debounce, and begun as a context with one. -/
theorem pinChanged_edge (none : (s.input k).context = none) (away : v ≠ (s.input k).settled) :
    pinChanged k v s =
      if (s.input k).edge.admits (directionTo v) = false then s.updInput k fun i => { i with settled := v }
      else if (s.input k).debounce = 0 then
        acceptEdge k (directionTo v) s.now (s.updInput k fun i => { i with settled := v })
      else s.updInput k fun i => { i with context := some (s.now, directionTo v) } := by
  unfold pinChanged
  simp only [none, away, Option.isSome_none, Bool.false_eq_true, if_false, Bool.not_eq_true']

end

/-- Settles O31: the pin takes the level, and then the case of the decision. -/
theorem capturePinChanges : Obligations.CapturePinChanges := by
  intro k v s running i pinned d settled
  have direction : directionTo v = d := directionTo_eq v
  have same : pinned.input k = i := rfl
  have decided (moved : s.tcu.pins[k] ≠ v) : exec (.capturePinChange k v) s = .next (pinChanged k v pinned) :=
    congrArg Host.Outcome.next (capturePinChange_moved running moved)
  refine ⟨fun holds => congrArg Host.Outcome.next (capturePinChange_same holds),
    fun moved => ⟨fun idle => ?_, fun context back => ?_, fun none away => ?_⟩⟩ <;> rw [decided moved]
  · rw [pinChanged_idle (s := pinned) idle]
  · rw [pinChanged_returned (s := pinned) context back]
  · rw [pinChanged_edge (s := pinned) none away, direction, same]
    exact ⟨fun refused => by rw [if_pos ((admits_eq_false_iff i.edge d).mpr refused)],
      fun admitted => by rw [if_neg (mt (admits_eq_false_iff i.edge d).mp admitted)]; rfl⟩

end Sys2Proof.Machine
end

section
/-! The capture log takes an entry or drops it, and MARK offers one (06 R103 to R105). -/

namespace Sys2Proof.Machine

/-- The log has room for fewer than 32 entries (06 R103). -/
theorem Timebase.logRoom_iff (t : Timebase) : t.logRoom = true ↔ t.log.length < 32 := decide_eq_true_iff

theorem logEntry_room {e : LogEntry} {s : State} (room : s.tcu.log.length < 32) :
    logEntry e s = { s with tcu := { s.tcu with log := s.tcu.log ++ [e] } } :=
  if_pos (s.tcu.logRoom_iff.mpr room)

/-- A full log drops the entry, and its notice is raised where it is armed (06 R104). -/
theorem logEntry_full {e : LogEntry} {s : State} (full : 32 ≤ s.tcu.log.length) : logEntry e s = { s with
    tcu := { s.tcu with dropped := min (s.tcu.dropped + 1) 65535, overflowArmed := false }
    nq := if s.tcu.overflowArmed then s.nq.raise s.tcu.stamp .captureOverflow else s.nq } := by
  unfold logEntry
  rw [if_neg (mt s.tcu.logRoom_iff.mp (Nat.not_lt.mpr full))]
  cases s.tcu.overflowArmed <;> rfl

/-- MARK answers with the stamp and whether its entry finds room (06 R105). -/
theorem ownMark_eq (s : State) : ownMark s = .accept
    (u32 s.tcu.stamp.toNat ++ [if s.tcu.log.length < 32 then 1 else 2]) (logEntry (.mark s.tcu.stamp) s) := by
  have outcome : u8 (if s.tcu.logRoom then 1 else 2) = [if s.tcu.log.length < 32 then 1 else 2] := by
    simp only [s.tcu.logRoom_iff]
    split <;> rfl
  unfold ownMark
  rw [outcome]
  rfl

/-- Settles O33. -/
theorem captureLogAndMark : Obligations.CaptureLogAndMark :=
  ⟨fun _ _ => ⟨logEntry_room, logEntry_full⟩,
    fun r _ h len => exec_accepts rfl h (by simp [bodyLengthOk, len]) (ownMark_eq _)⟩

end Sys2Proof.Machine
end

section
/-! SET_CAPTURE and READ_CAPTURES (06 R99, R104, R106): the fields of the body, the inputs a request
rewrites, and each owner's verdict. -/

namespace Sys2Proof.Machine

/-! ### The four inputs or lines, one after another -/

/-- Four operations in turn, each of which changes its own entry of a table and reads no other: every entry is
changed once. What an operation reads besides, it reads in a state that still has `P`. -/
theorem foldl_allFour {α : Type} {P : State → Prop} {f : State → Fin 4 → State} {get : State → Fin 4 → α}
    {g : Fin 4 → α → α} {s : State} (start : P s) (keeps : ∀ t k, P t → P (f t k))
    (reads : ∀ t k j, P t → get (f t k) j = if j = k then g k (get t k) else get t j) (j : Fin 4) :
    get (allFour.foldl f s) j = g j (get s j) := by
  have one := keeps s 0 start
  have two := keeps _ 1 one
  have three := keeps _ 2 two
  simp only [allFour, List.foldl_cons, List.foldl_nil]
  rw [reads _ 3 j three]
  fin_cases j <;> simp [reads _ 2 _ two, reads _ 1 _ one, reads _ 0 _ start]

/-! ### The fields of SET_CAPTURE -/

theorem edgeSelectOf_eq_none : ∀ {n : Nat}, edgeSelectOf n = none ↔ 4 < n
  | 0 => by decide
  | 1 => by decide
  | 2 => by decide
  | 3 => by decide
  | 4 => by decide
  | _ + 5 => ⟨fun _ => Nat.le_add_left .., fun _ => rfl⟩

theorem captureNotifyOf_eq_none : ∀ {n : Nat}, captureNotifyOf n = none ↔ 2 < n
  | 0 => by decide
  | 1 => by decide
  | 2 => by decide
  | _ + 3 => ⟨fun _ => Nat.le_add_left .., fun _ => rfl⟩

/-- The settings that a SET_CAPTURE body with every field in range gives (06 R99). -/
def captureGiven (b : List Byte) : CaptureSettings :=
  { edge := (edgeSelectOf (byteAt b 1)).join
    debounce := if wordAt b 2 = 65535 then none else some (wordAt b 2)
    notify := (captureNotifyOf (byteAt b 4)).join }

/-- The checks of a SET_CAPTURE body, in their order (06 R99, 12 R182). -/
theorem parseCapture_eq (b : List Byte) : parseCapture b =
    if 15 < byteAt b 0 then .error 1
    else if 4 < byteAt b 1 then .error 2
    else if 255 < wordAt b 2 ∧ wordAt b 2 ≠ 65535 then .error 3
    else if 2 < byteAt b 4 then .error 5
    else .ok (captureGiven b) := by
  unfold parseCapture captureGiven
  simp only [← edgeSelectOf_eq_none, ← captureNotifyOf_eq_none]
  cases edgeSelectOf (byteAt b 1) with
  | none => rfl
  | some edge =>
    cases captureNotifyOf (byteAt b 4) with
    | none => rfl
    | some notify => rfl

/-- An input rewritten with the settings of a body: each field given, or as it was. -/
theorem CaptureInput.rewrite_captureGiven (i : CaptureInput) (b : List Byte) (pin : Level) :
    i.rewrite (captureGiven b) pin =
      { edge := match byteAt b 1 with
          | 1 => .off
          | 2 => .rising
          | 3 => .falling
          | 4 => .both
          | _ => i.edge
        debounce := if wordAt b 2 = 65535 then i.debounce else wordAt b 2
        notify := match byteAt b 4 with
          | 1 => false
          | 2 => true
          | _ => i.notify
        settled := pin
        context := none } := by
  have edges : ∀ n, (edgeSelectOf n).join.getD i.edge = match n with
      | 1 => .off
      | 2 => .rising
      | 3 => .falling
      | 4 => .both
      | _ => i.edge
    | 0 | 1 | 2 | 3 | 4 | _ + 5 => rfl
  have notifies : ∀ n, (captureNotifyOf n).join.getD i.notify = match n with
      | 1 => false
      | 2 => true
      | _ => i.notify
    | 0 | 1 | 2 | _ + 3 => rfl
  have debounces : (if wordAt b 2 = 65535 then none else some (wordAt b 2)).getD i.debounce =
      if wordAt b 2 = 65535 then i.debounce else wordAt b 2 := by split <;> rfl
  unfold CaptureInput.rewrite captureGiven
  dsimp only
  rw [edges, notifies, debounces]

/-! ### The inputs rewritten -/

/-- The inputs of a mask rewritten, in order (06 R99). -/
def rewriteInputs (mask : Nat) (c : CaptureSettings) (s : State) : State :=
  allFour.foldl (fun s k => if bitOf mask k.val then s.updInput k fun i => i.rewrite c s.tcu.pins[k] else s) s

/-- Nothing but the inputs changes. -/
theorem rewriteInputs_eq (mask : Nat) (c : CaptureSettings) (s : State) : rewriteInputs mask c s =
    { s with tcu := { s.tcu with inputs := (rewriteInputs mask c s).tcu.inputs } } := by
  refine foldl_keeps (P := fun t => t = { s with tcu := { s.tcu with inputs := t.tcu.inputs } })
    (fun t k h => ?_) allFour s rfl
  split
  · exact congrArg (State.updInput · k fun i => i.rewrite c t.tcu.pins[k]) h
  · exact h

/-- An input of the mask is rewritten, and every other stays. -/
theorem input_rewriteInputs (mask : Nat) (c : CaptureSettings) (s : State) (k : Fin 4) :
    (rewriteInputs mask c s).input k =
      if mask.testBit k.val = true then (s.input k).rewrite c s.tcu.pins[k] else s.input k := by
  refine foldl_allFour (P := fun t => t.tcu.pins = s.tcu.pins) (get := State.input)
    (g := fun k i => if mask.testBit k.val = true then i.rewrite c s.tcu.pins[k] else i)
    rfl (fun t k h => ?_) (fun t k j h => ?_) k
  · split <;> exact h
  · unfold bitOf
    split
    · rw [State.input_updInput, h]
    · split
      · next same => rw [same]
      · rfl

/-! ### The verdicts -/

theorem ownSetCapture_error {b : List Byte} {d : Nat} (h : parseCapture b = .error d) (s : State) :
    ownSetCapture b s = .refuse .field d := by
  unfold ownSetCapture
  rw [h]

theorem ownSetCapture_ok {b : List Byte} {c : CaptureSettings} (h : parseCapture b = .ok c) (s : State) :
    ownSetCapture b s =
      let t := rewriteInputs (byteAt b 0) c s
      .accept (([0, 1, 2, 3] : List (Fin 4)).flatMap fun k =>
        u8 (t.input k).edge.code ++ u8 (t.input k).debounce ++ [if (t.input k).notify then 2 else 1]) t := by
  have sent : ∀ c : Bool, u8 (captureNotifyCode c) = [if c then 2 else 1] := by decide
  unfold ownSetCapture
  rw [h]
  simp only [sent]
  rfl

/-- READ_CAPTURES is refused for a count outside 1 to 32; else the oldest entries leave, the dropped count with
them, and an empty log arms the overflow notice (06 R104, R106). -/
theorem ownReadCaptures_eq (b : List Byte) (s : State) : ownReadCaptures b s =
    let most := byteAt b 0
    let rest := s.tcu.log.drop most
    if most = 0 ∨ 32 < most then .refuse .field 1
    else .accept (u8 rest.length ++ u16 s.tcu.dropped ++ (s.tcu.log.take most).flatMap logEntryBytes)
      { s with tcu := { s.tcu with
          log := rest, dropped := 0, overflowArmed := s.tcu.overflowArmed || decide (rest = []) } } := by
  have emptied : ∀ l : List LogEntry, l.isEmpty = decide (l = []) := fun l => by cases l <;> rfl
  unfold ownReadCaptures
  simp only [Bool.or_eq_true, beq_iff_eq, decide_eq_true_eq, emptied]
  rfl

/-- Settles O34: the owner's verdict on each of the two. -/
theorem captureRequests : Obligations.CaptureRequests := by
  intro r s
  refine ⟨fun h len => ?setCapture, fun h len => ?readCaptures⟩
  case setCapture =>
    have length : bodyLengthOk .setCapture r.body = true := by simp [bodyLengthOk, len]
    have parsed := parseCapture_eq r.body
    have refused {d : Nat} (e : parseCapture r.body = .error d) :
        exec (.setCapture r) s = .next (refuses .setCapture r s .field d) :=
      exec_refuses rfl h length (ownSetCapture_error e (s.taken .setCapture r))
    intro u mask edge debounce notify
    refine ⟨fun high => ?_, fun inMask high => ?_, fun inMask inEdge high => ?_,
      fun inMask inEdge inDebounce high => ?_, fun inMask inEdge inDebounce inNotify => ?_⟩
    · rw [if_pos high] at parsed
      exact refused parsed
    · rw [if_neg (Nat.not_lt.mpr inMask), if_pos high] at parsed
      exact refused parsed
    · rw [if_neg (Nat.not_lt.mpr inMask), if_neg (Nat.not_lt.mpr inEdge), if_pos high] at parsed
      exact refused parsed
    · rw [if_neg (Nat.not_lt.mpr inMask), if_neg (Nat.not_lt.mpr inEdge), if_neg (by omega), if_pos high] at parsed
      exact refused parsed
    · rw [if_neg (Nat.not_lt.mpr inMask), if_neg (Nat.not_lt.mpr inEdge), if_neg (by omega),
        if_neg (Nat.not_lt.mpr inNotify)] at parsed
      refine ⟨(rewriteInputs mask (captureGiven r.body) u).tcu.inputs, fun k => ?_, ?_⟩
      · refine (input_rewriteInputs mask (captureGiven r.body) u k).trans ?_
        rw [CaptureInput.rewrite_captureGiven]
        rfl
      · rw [← rewriteInputs_eq]
        exact exec_accepts rfl h length (ownSetCapture_ok parsed u)
  case readCaptures => exact exec_refusesOrAccepts rfl h (by simp [bodyLengthOk, len]) (ownReadCaptures_eq ..)

end Sys2Proof.Machine
end

section
/-! SET_OUTPUT and SET_SAFE_LEVELS (06 R109 to R111): the checks of a mask and its levels, the lines each
request leaves, and each owner's verdict. -/

namespace Sys2Proof.Machine

/-! ### A mask and its levels -/

/-- The code a body gives line `k` (12 R181). -/
def lineCode (b : List Byte) (k : Fin 4) : Nat := byteAt b 1 / 4 ^ k.val % 4

theorem levelOfLine_eq (b : List Byte) (k : Fin 4) : levelOfLine (byteAt b 1) k = levelOf (lineCode b k) := by
  unfold levelOfLine bitsOf lineCode
  rw [Nat.pow_mul]
  rfl

theorem levelOf_isNone_iff (n : Nat) : (levelOf n).isNone = true ↔ ¬ (n = 1 ∨ n = 2) := by
  rw [Option.isNone_iff_eq_none, levelOf_eq_none]
  omega

/-- Every line of the mask is given a level (06 R110, R111). -/
def LevelsGiven (b : List Byte) : Prop :=
  ∀ k : Fin 4, (byteAt b 0).testBit k.val = true → lineCode b k = 1 ∨ lineCode b k = 2

theorem mem_allFour (k : Fin 4) : k ∈ allFour := by revert k; decide

theorem levelMissing_iff (b : List Byte) :
    (allFour.any fun k => bitOf (byteAt b 0) k.val && (levelOfLine (byteAt b 1) k).isNone) = true ↔
      ¬ LevelsGiven b := by
  simp only [List.any_eq_true, mem_allFour, true_and, Bool.and_eq_true, levelOfLine_eq, levelOf_isNone_iff,
    LevelsGiven, not_forall, exists_prop]
  rfl

theorem lineFieldError_mask {b : List Byte} (high : 15 < byteAt b 0) : lineFieldError b = some 1 := if_pos high

theorem lineFieldError_level {b : List Byte} (inMask : byteAt b 0 ≤ 15) (missing : ¬ LevelsGiven b) :
    lineFieldError b = some 2 := by
  unfold lineFieldError
  rw [if_neg (Nat.not_lt.mpr inMask), if_pos ((levelMissing_iff b).mpr missing)]

theorem lineFieldError_none {b : List Byte} (inMask : byteAt b 0 ≤ 15) (given : LevelsGiven b) :
    lineFieldError b = none := by
  unfold lineFieldError
  rw [if_neg (Nat.not_lt.mpr inMask), if_neg (mt (levelMissing_iff b).mp (not_not.mpr given))]

/-- The level of a line of the mask; none for every other line. -/
theorem maskedLevel_eq {b : List Byte} (given : LevelsGiven b) (k : Fin 4) : maskedLevel b k =
    if (byteAt b 0).testBit k.val = true then some (if lineCode b k = 2 then .high else .low) else none := by
  unfold maskedLevel bitOf
  split
  · next masked =>
    rw [levelOfLine_eq]
    rcases given k masked with one | two
    · rw [one]; rfl
    · rw [two]; rfl
  · rfl

/-- A reply's level byte: a bit for each line that is HIGH (12 R181). -/
theorem levelsByte_eq (f : Fin 4 → Level) : levelsByte f =
    (if f 0 = .high then 1 else 0) + (if f 1 = .high then 2 else 0)
      + (if f 2 = .high then 4 else 0) + (if f 3 = .high then 8 else 0) := by
  have bit : ∀ (v : Level) (n : Nat), flag (v == .high) * n = if v = .high then n else 0 := by
    intro v n
    cases v
    · exact Nat.zero_mul n
    · exact Nat.one_mul n
  simp only [levelsByte, allFour, List.map_cons, List.map_nil, List.sum_cons, List.sum_nil, bit]
  simp only [Nat.add_zero, Nat.add_assoc]
  rfl

/-! ### The lines written -/

/-- The masked lines written with source HOST, in order (06 R110). -/
def writeMasked (b : List Byte) (s : State) : State :=
  allFour.foldl (fun s k =>
    match maskedLevel b k with
    | some v => s.writeLine k v .host
    | none => s) s

/-- The safe levels of the masked lines set, in order, and in SAFE the lines written too (06 R111). -/
def setMaskedSafe (b : List Byte) (s : State) : State :=
  allFour.foldl (fun s k =>
    match maskedLevel b k with
    | some v =>
      let s2 := s.updLine k fun l => { l with safe := v }
      if s.nc.state = .safe then s2.writeLine k v .safe else s2
    | none => s) s

/-- Nothing but the lines changes. -/
theorem writeMasked_eq (b : List Byte) (s : State) :
    writeMasked b s = { s with ou := { lines := (writeMasked b s).ou.lines } } := by
  refine foldl_keeps (P := fun t => t = { s with ou := { lines := t.ou.lines } }) (fun t k h => ?_) allFour s rfl
  split
  · rw [h]; rfl
  · exact h

theorem setMaskedSafe_eq (b : List Byte) (s : State) :
    setMaskedSafe b s = { s with ou := { lines := (setMaskedSafe b s).ou.lines } } := by
  refine foldl_keeps (P := fun t => t = { s with ou := { lines := t.ou.lines } }) (fun t k h => ?_) allFour s rfl
  split
  · dsimp only
    split <;> rw [h] <;> rfl
  · exact h

/-- What SET_OUTPUT makes of line `k`: written with source HOST where the mask has it (06 R110). -/
def hostWritten (b : List Byte) (now : Stamp) (k : Fin 4) (l : OutputLine) : OutputLine :=
  if (byteAt b 0).testBit k.val = true then
    { level := if lineCode b k = 2 then .high else .low, safe := l.safe, source := .host, stamp := now }
  else l

/-- What SET_SAFE_LEVELS makes of line `k`: its safe level set where the mask has it, and in SAFE its level
too, with source SAFE (06 R111). -/
def safeLevelSet (b : List Byte) (state : NodeState) (now : Stamp) (k : Fin 4) (l : OutputLine) : OutputLine :=
  if (byteAt b 0).testBit k.val = true then
    if state = .safe then
      { level := if lineCode b k = 2 then .high else .low, safe := if lineCode b k = 2 then .high else .low
        source := .safe, stamp := now }
    else { l with safe := if lineCode b k = 2 then .high else .low }
  else l

theorem line_writeMasked {b : List Byte} (given : LevelsGiven b) (s : State) (k : Fin 4) :
    (writeMasked b s).line k = hostWritten b s.tcu.stamp k (s.line k) := by
  refine foldl_allFour (P := fun t => t.tcu = s.tcu) (get := State.line) (g := hostWritten b s.tcu.stamp)
    rfl (fun t k h => ?_) (fun t k j h => ?_) k
  · split <;> exact h
  · rw [maskedLevel_eq given, ← h]
    unfold hostWritten
    by_cases masked : (byteAt b 0).testBit k.val = true
    · simp only [masked, if_true, State.writeLine, State.line_updLine]
      rfl
    · simp only [masked, if_false, Bool.false_eq_true]
      split
      · next same => rw [same]
      · rfl

theorem line_setMaskedSafe {b : List Byte} (given : LevelsGiven b) (s : State) (k : Fin 4) :
    (setMaskedSafe b s).line k = safeLevelSet b s.nc.state s.tcu.stamp k (s.line k) := by
  refine foldl_allFour (P := fun t => t.tcu = s.tcu ∧ t.nc = s.nc) (get := State.line)
    (g := safeLevelSet b s.nc.state s.tcu.stamp) ⟨rfl, rfl⟩ (fun t k h => ?_) (fun t k j h => ?_) k
  · split
    · dsimp only
      split <;> exact h
    · exact h
  · obtain ⟨tcu, nc⟩ := h
    rw [maskedLevel_eq given, ← tcu, ← nc]
    unfold safeLevelSet
    by_cases masked : (byteAt b 0).testBit k.val = true
    · simp only [masked, if_true]
      split
      · simp only [State.writeLine, State.line_updLine, if_true]
        split <;> rfl
      · exact State.line_updLine ..
    · simp only [masked, if_false, Bool.false_eq_true]
      split
      · next same => rw [same]
      · rfl

/-! ### The verdicts -/

theorem ownSetOutput_refused {b : List Byte} {d : Nat} (h : lineFieldError b = some d) (s : State) :
    ownSetOutput b s = .refuse .field d := by
  unfold ownSetOutput
  rw [h]

/-- With its fields in order SET_OUTPUT is refused in SAFE alone (06 R110). -/
theorem ownSetOutput_eq {b : List Byte} (h : lineFieldError b = none) (s : State) : ownSetOutput b s =
    if s.nc.state = .safe then .refuse .state 0
    else .accept (levelsNow (writeMasked b s)) (writeMasked b s) := by
  unfold ownSetOutput
  rw [h]
  rfl

theorem ownSetSafeLevels_refused {b : List Byte} {d : Nat} (h : lineFieldError b = some d) (s : State) :
    ownSetSafeLevels b s = .refuse .field d := by
  unfold ownSetSafeLevels
  rw [h]

theorem ownSetSafeLevels_eq {b : List Byte} (h : lineFieldError b = none) (s : State) : ownSetSafeLevels b s =
    .accept (u8 (levelsByte fun k => ((setMaskedSafe b s).line k).safe) ++ levelsNow (setMaskedSafe b s))
      (setMaskedSafe b s) := by
  unfold ownSetSafeLevels
  rw [h]
  rfl

/-- Settles O39: the checks in their order, then the lines written. -/
theorem outputRequests : Obligations.OutputRequests := by
  intro r s b body len masked code level good shown
  subst body
  have replied : shown = fun f => u8 (levelsByte f) := funext fun f => congrArg u8 (levelsByte_eq f).symm
  refine ⟨fun h => ?setOutput, fun h => ?setSafeLevels⟩
  case setOutput =>
    have length : bodyLengthOk .setOutput r.body = true := by simp [bodyLengthOk, len]
    intro u
    refine ⟨fun high => ?_, fun inMask missing => ?_, fun inMask given safe => ?_, fun inMask given outside => ?_⟩
    · exact exec_refuses rfl h length (ownSetOutput_refused (lineFieldError_mask high) u)
    · exact exec_refuses rfl h length (ownSetOutput_refused (lineFieldError_level inMask missing) u)
    · exact exec_refuses rfl h length ((ownSetOutput_eq (lineFieldError_none inMask given) u).trans (if_pos safe))
    · refine ⟨(writeMasked r.body u).ou.lines, line_writeMasked given u, ?_⟩
      rw [← writeMasked_eq, replied]
      exact exec_accepts rfl h length
        ((ownSetOutput_eq (lineFieldError_none inMask given) u).trans (if_neg outside))
  case setSafeLevels =>
    have length : bodyLengthOk .setSafeLevels r.body = true := by simp [bodyLengthOk, len]
    intro u
    refine ⟨fun high => ?_, fun inMask missing => ?_, fun inMask given => ?_⟩
    · exact exec_refuses rfl h length (ownSetSafeLevels_refused (lineFieldError_mask high) u)
    · exact exec_refuses rfl h length (ownSetSafeLevels_refused (lineFieldError_level inMask missing) u)
    · refine ⟨(setMaskedSafe r.body u).ou.lines, line_setMaskedSafe given u, ?_⟩
      rw [← setMaskedSafe_eq, replied]
      exact exec_accepts rfl h length (ownSetSafeLevels_eq (lineFieldError_none inMask given) u)

end Sys2Proof.Machine
end

section
/-! A step with no command waiting (00 §4.0 "Events", 06 R95, log 2, 3): the events that the node finds due at
the present stamp are those that the rules name. -/

namespace Sys2Proof.Machine

section
variable {s : State} {i : Instr} {k : Fin 8}

/-! ### What is due, block by block -/

theorem dueNow_iff (s : State) (d : Option Stamp) : s.dueNow d = true ↔ d = some s.tcu.stamp := beq_iff_eq

/-- The events of `eventsNow`, one block after another. -/
theorem mem_eventsNow (s : State) (i : Instr) : i ∈ eventsNow s ↔
    (s.cv.due = some s.tcu.stamp ∧ i = converterEvent s) ∨
    (s.su.due = some s.tcu.stamp ∧ i = .actionFiring) ∨
    (s.nc.timer = some s.tcu.stamp ∧ i = .silenceExpiry) ∨
    (∃ k, (s.list k).due = some s.tcu.stamp ∧ i = listEvent s k) ∨
    ∃ k, (s.input k).due = some s.tcu.stamp ∧ i = .debounceEnd k := by
  have listed (c : Prop) [Decidable c] (j : Instr) : i ∈ (if c then [j] else []) ↔ c ∧ i = j := by
    split <;> simp [*]
  unfold eventsNow
  simp only [List.mem_append, listed, List.mem_map, List.mem_filter, mem_allLists, mem_allFour, true_and,
    dueNow_iff, or_assoc, eq_comm (b := i)]

/-- The converter's event at its due stamp (03 R51, R53 to R55). -/
theorem eventDue_converter (due : s.cv.due = some s.tcu.stamp) : s.EventDue (converterEvent s) := by
  unfold Converter.due at due
  unfold converterEvent
  cases state : s.cv.state with
  | calibrating =>
    rw [state] at due
    exact .calibration state (Option.some.inj due).symm
  | idle =>
    rw [state] at due
    cases due
  | checking c =>
    rw [state] at due
    exact .check c _ _ state (Option.some.inj due)
  | settling c =>
    rw [state] at due
    exact .settling c state (Option.some.inj due)
  | sampling c =>
    rw [state] at due
    exact .sample c _ state (Option.some.inj due)

theorem eventDue_action (due : s.su.due = some s.tcu.stamp) : s.EventDue .actionFiring := by
  unfold ScheduleUnit.due at due
  cases table : s.su.table with
  | nil => rw [table] at due; cases due
  | cons e later => rw [table] at due; exact .action e later table (Option.some.inj due)

theorem eventDue_debounce {k : Fin 4} (due : (s.input k).due = some s.tcu.stamp) :
    s.EventDue (.debounceEnd k) := by
  unfold CaptureInput.due at due
  obtain ⟨⟨initial, d⟩, context, ends⟩ := Option.map_eq_some_iff.mp due
  exact .debounce k initial d context ends

/-- A list's event at its due stamp: an ACTIVE list that has an expiry stamp stands at a WAIT or an AWAIT
step, and a RESTING one has a definition (01 R6, R14, R16, R19). -/
theorem eventDue_list (sound : s.ListsSound) (due : (s.list k).due = some s.tcu.stamp) :
    s.EventDue (listEvent s k) := by
  unfold ListRecord.due at due
  unfold listEvent
  split at due
  · next active =>
    rcases sound.expiring k (by rw [due]; rfl) with ⟨n, atWait⟩ | ⟨i, n, atAwait⟩
    · rw [active, atWait]; exact .wait k n active atWait due
    · rw [active, atAwait]; exact .await k i _ active atAwait due
  · next resting =>
    obtain ⟨d, defined⟩ : ∃ d, (s.list k).defn = some d := Option.ne_none_iff_exists'.mp fun none => by
      have := (sound.sound k).defined.mp none
      rw [resting] at this
      cases this
    rw [resting]
    refine .rest k d resting defined ?_
    have := Option.some.inj due
    rwa [restStamp, defined] at this
  · cases due

/-! ### The events due now -/

/-- Every event that the node finds due is due by the rules. -/
theorem eventDue_of_mem (sound : s.ListsSound) (h : i ∈ eventsNow s) : s.EventDue i := by
  rcases (mem_eventsNow s i).mp h with ⟨due, rfl⟩ | ⟨due, rfl⟩ | ⟨due, rfl⟩ | ⟨k, due, rfl⟩ | ⟨k, due, rfl⟩
  · exact eventDue_converter due
  · exact eventDue_action due
  · exact .silence due
  · exact eventDue_list sound due
  · exact eventDue_debounce due

/-- Where an event is due by the rules, the node finds one. -/
theorem eventsNow_ne_nil (h : s.EventDue i) : eventsNow s ≠ [] := by
  have found : ∀ j, j ∈ eventsNow s → eventsNow s ≠ [] := fun j => List.ne_nil_of_mem
  have converter (due : s.cv.due = some s.tcu.stamp) := found _ ((mem_eventsNow s _).mpr (.inl ⟨due, rfl⟩))
  have list {k} (due : (s.list k).due = some s.tcu.stamp) :=
    found _ ((mem_eventsNow s _).mpr (.inr (.inr (.inr (.inl ⟨k, due, rfl⟩)))))
  cases h with
  | calibration calibrating now =>
    refine converter ?_
    unfold Converter.due
    rw [calibrating, now]
    rfl
  | check c _ _ checking ends =>
    refine converter ?_
    unfold Converter.due
    rw [checking, ← ends]
  | settling c settling ends =>
    refine converter ?_
    unfold Converter.due
    rw [settling, ← ends]
  | sample c _ sampling ends =>
    refine converter ?_
    unfold Converter.due
    rw [sampling, ← ends]
  | wait k n active _ expiry => exact list ((due_of_active active).trans expiry)
  | await k j t active _ expiry => exact list ((due_of_active active).trans expiry)
  | rest k d resting defined ends =>
    refine list (k := k) ?_
    unfold ListRecord.due restStamp
    rw [resting, defined]
    exact congrArg some ends
  | debounce k initial d context ends =>
    refine found _ ((mem_eventsNow s _).mpr (.inr (.inr (.inr (.inr ⟨k, ?_, rfl⟩)))))
    unfold CaptureInput.due
    rw [context]
    exact congrArg some ends
  | action e later table due =>
    refine found _ ((mem_eventsNow s _).mpr (.inr (.inl ⟨?_, rfl⟩)))
    unfold ScheduleUnit.due
    rw [table]
    exact congrArg some due
  | silence timer => exact found _ ((mem_eventsNow s _).mpr (.inr (.inr (.inl ⟨timer, rfl⟩))))

/-! ### The step -/

/-- The node that runs takes none of the events only where there is none. -/
theorem nextEvent_eq_none_iff (running : s.resetHeld = false) : nextEvent s = none ↔ eventsNow s = [] := by
  unfold nextEvent
  rw [if_neg (by simp [running])]
  split
  · next none => simp [none]
  · next one => simp [one]
  · next more => simp [more]

/-- A node held in reset stands still (11 R170, log 2). -/
theorem idleStep_held (held : s.resetHeld = true) : idleStep s = .next s := by
  unfold idleStep nextEvent tick
  simp only [held, if_true]

/-- With nothing due one microsecond passes (06 R95). -/
theorem idleStep_quiet (running : s.resetHeld = false) (quiet : eventsNow s = []) :
    idleStep s = .next (s.advance (s.now + 1)) := by
  unfold idleStep tick
  rw [(nextEvent_eq_none_iff running).mpr quiet]
  simp only [running, Bool.false_eq_true, if_false]

/-- With something due one of the events due now is taken, with the free counter moved on (log 3, 4). -/
theorem idleStep_due (running : s.resetHeld = false) (due : eventsNow s ≠ []) :
    ∃ i ∈ eventsNow s, idleStep s = exec i s.useFree := by
  cases next : nextEvent s with
  | none => exact absurd ((nextEvent_eq_none_iff running).mp next) due
  | some i =>
    refine ⟨i, (nextEvent_mem next).2, ?_⟩
    unfold idleStep
    rw [next]

end

/-- Settles O1: the front command, and the three things a step with an empty queue can do. -/
theorem stepRunsFrontCommand : Obligations.StepRunsFrontCommand := by
  refine ⟨fun c rest s => rfl, fun s empty => ?_⟩
  rw [step_idle empty]
  refine ⟨idleStep_held, fun running sound nothing => ?_, fun running sound ⟨j, due⟩ => ?_⟩
  · refine idleStep_quiet running (List.eq_nil_iff_forall_not_mem.mpr fun i h => ?_)
    exact nothing i (eventDue_of_mem sound h)
  · obtain ⟨i, found, taken⟩ := idleStep_due running (eventsNow_ne_nil due)
    exact ⟨i, eventDue_of_mem sound found, taken⟩

end Sys2Proof.Machine
end

section
/-! A SCHEDULE body, read and refused field by field (07 R117, 12 §12.6). -/

namespace Sys2Proof.Machine

section
variable {b : List Byte} {s : State}

/-- The fields after the action: period, then repeats, then notify, each checked before the next is. -/
theorem parseTiming_eq (b : List Byte) (o : Nat) (a : Action) : parseTiming b o a =
    if (1 ≤ longAt b (o + 4) ∧ longAt b (o + 4) ≤ 99) ∨ 1000000000 < longAt b (o + 4) then .error (o + 5)
    else if longAt b (o + 4) = 0 ∧ wordAt b (o + 8) ≠ 0 then .error (o + 9)
    else if 1 < byteAt b (o + 10) then .error (o + 11)
    else .ok { action := a, due := BitVec.ofNat 32 (longAt b o), period := longAt b (o + 4)
               repeats := wordAt b (o + 8), notify := byteAt b (o + 10) == 1 } := by
  have period : (!periodOk (longAt b (o + 4))) = true ↔
      (1 ≤ longAt b (o + 4) ∧ longAt b (o + 4) ≤ 99) ∨ 1000000000 < longAt b (o + 4) := by
    rw [Bool.not_eq_true', Bool.eq_false_iff, Ne, periodOk_iff]
    omega
  unfold parseTiming
  simp only [period]

/-- Whether a list's source is SCHEDULE: its definition is there and says so. -/
theorem scheduled_iff {k : Fin 8} :
    scheduled s k = true ↔ ∃ d, (s.list k).defn = some d ∧ d.source = .schedule := by
  unfold scheduled State.listFlag
  cases (s.list k).defn <;> simp

theorem parseSchedule_action (line : byteAt b 0 ≠ 1) (list : byteAt b 0 ≠ 2) :
    parseSchedule b s = .error 1 := by
  unfold parseSchedule
  split
  · next one => exact absurd one line
  · next two => exact absurd two list
  · rfl

theorem parseSchedule_line (line : byteAt b 0 = 1) : parseSchedule b s = match below 4 (byteAt b 1) with
    | none => .error 2
    | some line => match levelOf (byteAt b 2) with
      | none => .error 3
      | some level => parseTiming b 3 (.setLine line level) := by
  unfold parseSchedule
  rw [line]
  rfl

theorem parseSchedule_list (list : byteAt b 0 = 2) : parseSchedule b s = match below 8 (byteAt b 1) with
    | none => .error 2
    | some k => if scheduled s k then parseTiming b 2 (.startList k) else .error 2 := by
  unfold parseSchedule
  rw [list]
  rfl

end

/-- Settles O36: by the action, then by its line or list, then by its level or the list's source. -/
theorem scheduleBodyIsChecked : Obligations.ScheduleBodyIsChecked := by
  intro b s
  refine ⟨parseSchedule_action, fun line => ⟨fun high => ?noLine, fun k named => ⟨fun low => ?low,
    fun high => ?high, fun notLow notHigh => ?noLevel⟩⟩, fun list => ⟨fun high => ?noList, fun k named => ⟨fun sourced => ?sourced,
    fun other => ?unsourced⟩⟩⟩
  case noLine => rw [parseSchedule_line line, below_eq_none high]
  case low => rw [parseSchedule_line line, below_eq_some named, low]; exact parseTiming_eq ..
  case high => rw [parseSchedule_line line, below_eq_some named, high]; exact parseTiming_eq ..
  case noLevel =>
    have unnamed : levelOf (byteAt b 2) = none := levelOf_eq_none.mpr (by omega)
    rw [parseSchedule_line line, below_eq_some named, unnamed]
  case noList => rw [parseSchedule_list list, below_eq_none high]
  case sourced =>
    rw [parseSchedule_list list, below_eq_some named]
    exact (if_pos (scheduled_iff.mpr sourced)).trans (parseTiming_eq ..)
  case unsourced =>
    rw [parseSchedule_list list, below_eq_some named]
    refine if_neg fun sourced => ?_
    obtain ⟨d, defined, source⟩ := scheduled_iff.mp sourced
    exact other d defined source

/-- A period that is read is none or at most 1,000,000,000 µs (07 R117). -/
theorem parseTiming_period {b : List Byte} {o : Nat} {a : Action} {x : ScheduleBody}
    (read : parseTiming b o a = .ok x) : x.period ≤ 1000000000 := by
  rw [parseTiming_eq] at read
  split at read
  · cases read
  · next inRange =>
    split at read
    · cases read
    · split at read <;> cases read
      exact Nat.le_of_not_lt fun long => inRange (.inr long)

theorem parseSchedule_period {b : List Byte} {s : State} {x : ScheduleBody}
    (read : parseSchedule b s = .ok x) : x.period ≤ 1000000000 := by
  unfold parseSchedule at read
  split at read
  · split at read
    · cases read
    · split at read
      · cases read
      · exact parseTiming_period read
  · split at read
    · cases read
    · split at read
      · exact parseTiming_period read
      · cases read
  · cases read

end Sys2Proof.Machine
end

section
/-! The schedule table in its firing order, and what the Schedule Unit does to it: entries leave it, one is
inserted, and the stamp moves on to what is due next (07 R114 to R125). -/

namespace Sys2Proof.Machine

/-! ### Distances -/

/-- From a stamp on the way to another the rest of the way is left (00 §4.0). -/
theorem distance_eq_sub {now d x : Stamp} (h : distance now d ≤ distance now x) :
    distance d x = distance now x - distance now d := by
  have rest : x - d = (x - now) - (d - now) := by bv_omega
  unfold distance at h ⊢
  rw [rest, BitVec.toNat_sub_of_le h]

/-- A period lies ahead of any stamp by its length (07 R122). -/
theorem distance_add {n : Nat} (short : n ≤ 1000000000) (d : Stamp) : distance d (d + BitVec.ofNat 32 n) = n := by
  unfold distance
  bv_omega

/-! ### The table in order -/

/-- `State.ScheduleInOrder` said of a table as it is seen from a stamp. -/
structure TableInOrder (now : Stamp) (table : List ScheduleEntry) : Prop where
  order : table.Pairwise fun e f => distance now e.due ≤ distance now f.due
  ahead : ∀ e ∈ table, distance now e.due ≤ 2147483647
  periods : ∀ e ∈ table, e.period ≤ 1000000000
  handles : (table.map ScheduleEntry.handle).Nodup
  count : table.length ≤ 24

theorem scheduleInOrder_iff (s : State) : s.ScheduleInOrder ↔ TableInOrder s.now s.su.table :=
  ⟨fun h => ⟨h.order, h.ahead, h.periods, h.handles, h.count⟩,
    fun h => ⟨h.order, h.ahead, h.periods, h.handles, h.count⟩⟩

/-- An entry goes after a nearer front entry, or one as near, and before a farther one (07 R115). -/
theorem insertEntry_cons (now : Stamp) (e x : ScheduleEntry) (table : List ScheduleEntry) :
    insertEntry now e (x :: table) = if distance now x.due ≤ distance now e.due
      then x :: insertEntry now e table else e :: x :: table := by
  unfold insertEntry
  dsimp only
  rw [List.takeWhile_cons, List.dropWhile_cons]
  split <;> simp_all

/-- An insertion adds the entry and nothing else. -/
theorem insertEntry_perm (now : Stamp) (e : ScheduleEntry) (table : List ScheduleEntry) :
    (insertEntry now e table).Perm (e :: table) := by
  unfold insertEntry
  exact List.perm_middle.trans (by rw [List.takeWhile_append_dropWhile])

/-- An insertion keeps the firing order (07 R115). -/
theorem insertEntry_order {now : Stamp} {table : List ScheduleEntry} (e : ScheduleEntry)
    (h : table.Pairwise fun e f => distance now e.due ≤ distance now f.due) :
    (insertEntry now e table).Pairwise fun e f => distance now e.due ≤ distance now f.due := by
  induction table with
  | nil => exact List.pairwise_singleton ..
  | cons x table ih =>
    obtain ⟨first, later⟩ := List.pairwise_cons.mp h
    rw [insertEntry_cons]
    split
    · next nearer =>
      refine List.pairwise_cons.mpr ⟨fun y hy => ?_, ih later⟩
      rcases List.mem_cons.mp ((insertEntry_perm ..).mem_iff.mp hy) with rfl | hy
      · exact nearer
      · exact first y hy
    · next farther =>
      refine List.pairwise_cons.mpr ⟨fun y hy => ?_, h⟩
      rcases List.mem_cons.mp hy with rfl | hy
      · omega
      · have := first y hy; omega

namespace TableInOrder

variable {now d : Stamp} {table : List ScheduleEntry} {e : ScheduleEntry}

theorem nil (now : Stamp) : TableInOrder now [] := ⟨.nil, nofun, nofun, .nil, Nat.zero_le _⟩

/-- Entries that leave the table leave the others in order. -/
theorem sublist {left : List ScheduleEntry} (h : TableInOrder now table) (less : left.Sublist table) :
    TableInOrder now left where
  order := h.order.sublist less
  ahead e he := h.ahead e (less.subset he)
  periods e he := h.periods e (less.subset he)
  handles := h.handles.sublist (less.map _)
  count := less.length_le.trans h.count

/-- An entry under a handle of its own, within the window and with room for it, is placed in order. -/
theorem insert (h : TableInOrder now table) (ahead : distance now e.due ≤ 2147483647)
    (period : e.period ≤ 1000000000) (handle : e.handle ∉ table.map ScheduleEntry.handle)
    (room : table.length < 24) : TableInOrder now (insertEntry now e table) where
  order := insertEntry_order e h.order
  ahead x hx := (List.mem_cons.mp ((insertEntry_perm ..).mem_iff.mp hx)).elim (· ▸ ahead) (h.ahead x)
  periods x hx := (List.mem_cons.mp ((insertEntry_perm ..).mem_iff.mp hx)).elim (· ▸ period) (h.periods x)
  handles := ((insertEntry_perm ..).map _).nodup_iff.mpr (List.nodup_cons.mpr ⟨handle, h.handles⟩)
  count := by rw [insertEntry_length]; exact room

/-- The stamp may move on to whatever no entry is due before. -/
theorem advance (h : TableInOrder now table) (first : ∀ e ∈ table, distance now d ≤ distance now e.due) :
    TableInOrder d table where
  order := h.order.imp_of_mem fun {e f} he hf nearer => by
    rw [distance_eq_sub (first e he), distance_eq_sub (first f hf)]
    exact Nat.sub_le_sub_right nearer _
  ahead e he := by
    rw [distance_eq_sub (first e he)]
    exact (Nat.sub_le ..).trans (h.ahead e he)
  periods := h.periods
  handles := h.handles
  count := h.count

/-- No entry is due before the front one. -/
theorem front_first (h : TableInOrder now (e :: table)) :
    ∀ x ∈ e :: table, distance now e.due ≤ distance now x.due := fun x hx =>
  (List.mem_cons.mp hx).elim (fun same => by rw [same]) ((List.pairwise_cons.mp h.order).1 x)

/-- The front entry fires at its stamp: it leaves, or comes back one period later (07 R122). -/
theorem tableAfter (h : TableInOrder now (e :: table)) (due : e.due = now) :
    TableInOrder now (tableAfter now e table) := by
  have others := h.sublist (List.sublist_cons_self e table)
  unfold Machine.tableAfter
  split
  · have period := h.periods e List.mem_cons_self
    have later : distance now e.later.due = e.period := by
      unfold ScheduleEntry.later
      rw [due]
      exact distance_add period now
    refine others.insert (by omega) period (List.nodup_cons.mp h.handles).1 h.count
  · exact others

end TableInOrder

/-! ### The schedule in order -/

section
variable {s t : State}

/-- Where the schedule and the stamp are the same the schedule is in order as it was. -/
theorem State.ScheduleInOrder.of_same (h : s.ScheduleInOrder) (su : t.su = s.su)
    (now : t.tcu.stamp = s.tcu.stamp) : t.ScheduleInOrder := by
  rw [scheduleInOrder_iff] at h ⊢
  unfold State.now
  rw [su, now]
  exact h

theorem State.ScheduleInOrder.of_empty (table : s.su.table = []) : s.ScheduleInOrder := by
  rw [scheduleInOrder_iff, table]
  exact .nil _

/-- The stamp may move on to a stamp that no entry is due before: the front entry decides. -/
theorem State.ScheduleInOrder.advance {d : Stamp} (h : s.ScheduleInOrder)
    (first : ∀ e rest, s.su.table = e :: rest → distance s.now d ≤ distance s.now e.due) :
    (s.advance d).ScheduleInOrder := by
  cases front : s.su.table with
  | nil => exact .of_empty front
  | cons e rest =>
    rw [scheduleInOrder_iff] at h ⊢
    refine h.advance fun x hx => (first e rest front).trans ?_
    rw [front] at h hx
    exact h.front_first x hx

/-- The stamp moves on to what is due next (log 2). -/
theorem State.ScheduleInOrder.reach {d : Stamp} (h : s.ScheduleInOrder) (reached : s.reaches d = true) :
    (s.advance d).ScheduleInOrder :=
  h.advance fun e rest front => State.reaches_le reached (by simp [State.dueStamps, ScheduleUnit.due, front])

/-- With no event due now a microsecond passes before the front entry is due (07 R119). -/
theorem State.ScheduleInOrder.pass (h : s.ScheduleInOrder) (quiet : eventsNow s = []) :
    (s.advance (s.now + 1)).ScheduleInOrder :=
  h.advance fun e rest front => by
    have later : e.due ≠ s.now := fun due => eventsNow_ne_nil (.action e rest front due) quiet
    have one : distance s.now (s.now + 1) = 1 := distance_add (n := 1) (by omega) s.now
    have ahead : distance s.now e.due ≠ 0 := fun zero => later (by unfold distance at zero; bv_omega)
    omega

end

end Sys2Proof.Machine
end

section
/-! The requests of the Schedule Unit and the firing of its front entry (07 R115 to R123). -/

namespace Sys2Proof.Machine

section
variable {b : List Byte} {s : State}

/-! ### SCHEDULE -/

theorem dueAhead_iff {now due : Stamp} :
    dueAhead now due = true ↔ 1 ≤ distance now due ∧ distance now due ≤ 2147483647 := by
  unfold dueAhead
  rw [Bool.and_eq_true, decide_eq_true_eq, decide_eq_true_eq]
  rfl

/-- The entry that a body asks for, under a handle (07 R118). -/
def ScheduleBody.entry (x : ScheduleBody) (handle : Nat) : ScheduleEntry :=
  { handle := handle, due := x.due, action := x.action, period := x.period, repeats := x.repeats, notify := x.notify }

theorem ownSchedule_error {d : Nat} (read : parseSchedule b s = .error d) :
    ownSchedule b s = .refuse .field d := by
  unfold ownSchedule
  rw [read]

/-- A body that reads is refused STATE, FULL or LATE, or its entry is placed (07 R117, R118). -/
theorem ownSchedule_ok {x : ScheduleBody} (read : parseSchedule b s = .ok x) : ownSchedule b s =
    if s.nc.state ≠ .run then .refuse .state 0
    else if 24 ≤ s.su.table.length then .refuse .full 0
    else if distance s.now x.due = 0 ∨ 2147483647 < distance s.now x.due then .refuse .late 0
    else .accept (u8 s.su.freeHandle ++ u8 ((insertEntry s.now (x.entry s.su.freeHandle) s.su.table).findIdx
        (fun e => e.handle == s.su.freeHandle) + 1)) (placeEntry (x.entry s.su.freeHandle) s) := by
  have late : (!dueAhead s.now x.due) = true ↔
      distance s.now x.due = 0 ∨ 2147483647 < distance s.now x.due := by
    rw [Bool.not_eq_true', Bool.eq_false_iff, Ne, dueAhead_iff]
    omega
  unfold ownSchedule
  rw [read]
  simp only [late]
  rfl

/-- Settles O35: the body is read, and then the node state, the room and the due stamp decide. -/
theorem schedulePlacesEntry : Obligations.SchedulePlacesEntry := by
  intro r s h length u
  cases read : parseSchedule r.body s with
  | error d => exact exec_refuses rfl h length (ownSchedule_error (s := u) read)
  | ok x =>
    dsimp only
    rw [exec_owned rfl h length, show owner .schedule r.body u = _ from ownSchedule_ok (s := u) read,
      apply_ite (concludes .schedule r s), apply_ite (concludes .schedule r s),
      apply_ite (concludes .schedule r s)]
    rfl

/-! ### CANCEL_ACTION -/

theorem ownCancelAction_field (zero : byteAt b 0 = 0) : ownCancelAction b s = .refuse .field 1 := by
  unfold ownCancelAction
  rw [zero]
  rfl

theorem ownCancelAction_absent (handle : byteAt b 0 ≠ 0) (absent : ∀ e ∈ s.su.table, e.handle ≠ byteAt b 0) :
    ownCancelAction b s = .refuse .absent 0 := by
  have unfound : (s.su.table.find? fun e => e.handle == byteAt b 0) = none :=
    List.find?_eq_none.mpr fun e he => by simpa using absent e he
  unfold ownCancelAction
  simp only [beq_eq_false_iff_ne.mpr handle, Bool.false_eq_true, if_false, unfound]

/-- The one entry of a handle leaves the table (07 R123). -/
theorem ownCancelAction_entry {before after : List ScheduleEntry} {e : ScheduleEntry} (handle : byteAt b 0 ≠ 0)
    (table : s.su.table = before ++ e :: after) (named : e.handle = byteAt b 0)
    (others : ∀ x ∈ before ++ after, x.handle ≠ byteAt b 0) : ownCancelAction b s =
    .accept (u8 (byteAt b 0) ++ u8 e.action.code ++ u32 e.due.toNat ++ u16 e.repeats)
      (s.setTable (before ++ after)) := by
  have first : ∀ x ∈ before, x.handle ≠ byteAt b 0 := fun x hx => others x (List.mem_append_left _ hx)
  have second : ∀ x ∈ after, x.handle ≠ byteAt b 0 := fun x hx => others x (List.mem_append_right _ hx)
  have found : (s.su.table.find? fun e => e.handle == byteAt b 0) = some e := by
    rw [table, List.find?_eq_some_iff_append]
    exact ⟨by simpa using named, before, after, rfl, fun x hx => by simpa using first x hx⟩
  have left : (s.su.table.filter fun e => e.handle != byteAt b 0) = before ++ after := by
    rw [table, List.filter_append, List.filter_cons_of_neg (by simpa using named),
      List.filter_eq_self.mpr fun x hx => by simpa using first x hx,
      List.filter_eq_self.mpr fun x hx => by simpa using second x hx]
  unfold ownCancelAction
  simp only [beq_eq_false_iff_ne.mpr handle, Bool.false_eq_true, if_false, found, left]

/-- Settles O38: a handle of 0, of no entry, and of one entry. -/
theorem cancelActionRemoves : Obligations.CancelActionRemoves := by
  intro r s h len u
  have length : bodyLengthOk .cancelAction r.body = true := by simp [bodyLengthOk, len]
  refine ⟨fun zero => ?_, fun handle absent => ?_, fun before e after handle table named others => ?_⟩
  · exact exec_refuses rfl h length (ownCancelAction_field zero)
  · exact exec_refuses rfl h length (ownCancelAction_absent (s := u) handle absent)
  · exact exec_accepts rfl h length (ownCancelAction_entry (s := u) handle table named others)

/-! ### ACTION_FIRING -/

/-- An action that fires leaves the stamp. -/
theorem actionEffect_tcu (e : ScheduleEntry) (s : State) : (actionEffect e s).tcu = s.tcu := by
  unfold actionEffect
  split
  · rfl
  · exact (takeTrigger_only ..).tcu

/-- The front entry fires: its effect, and then its notice and its table (07 R119). -/
theorem fireFront_cons {e : ScheduleEntry} {rest : List ScheduleEntry} (front : s.su.table = e :: rest) :
    fireFront s = { actionEffect e s with
      nq := if e.notify then (actionEffect e s).nq.raise s.tcu.stamp (.actionFired e.handle e.action e.repeatsAfter)
        else (actionEffect e s).nq
      su := { s.su with table := tableAfter s.now e rest } } := by
  have stamp : (actionEffect e s).tcu.stamp = s.tcu.stamp := by rw [actionEffect_tcu]
  unfold fireFront State.setTable
  rw [front]
  dsimp only
  rw [State.raiseIf_su, actionEffect_su]
  unfold State.raiseIf State.raise State.now
  rw [stamp]
  split <;> rfl

/-- An entry stays where its period is not 0 and it repeats for ever or has firings to come (07 R122). -/
theorem fireAgain_iff (e : ScheduleEntry) :
    e.fireAgain = true ↔ e.period ≠ 0 ∧ (e.repeats = 0 ∨ e.repeatsAfter ≠ 0) := by
  simp [ScheduleEntry.fireAgain]

/-- Settles O37: the event at its due stamp is the front entry's firing, written out. -/
theorem actionFires : Obligations.ActionFires := by
  refine fun s => ⟨fun empty => ?_, fun e rest running front reached => ?_⟩
  · show Host.Outcome.next (s.whenDue s.su.due fireFront) = _
    unfold ScheduleUnit.due
    rw [empty]
    rfl
  · intro at_ left again back near effect
    have due : s.su.due = some e.due := by unfold ScheduleUnit.due; rw [front]; rfl
    have acted : actionEffect e (s.advance e.due) = effect := by unfold actionEffect; rfl
    show Host.Outcome.next (s.whenDue s.su.due fireFront) = _
    rw [due, State.whenDue_due fireFront running reached, fireFront_cons (s := s.advance e.due) front,
      acted]
    unfold tableAfter
    simp only [fireAgain_iff]
    rfl

end

end Sys2Proof.Machine
end

section
/-! What the end of a frame can do, said once: whatever becomes of the frame, at most one owner accepts a
request, and the rest touches only the line, the Request Handler and the silence timer (09 R143, 10 R165). -/

namespace Sys2Proof.Machine

section
variable {s t u : State}

/-- `t` is `s` but for the line, the Request Handler and the silence timer. -/
def State.OnlyFrames (s t : State) : Prop :=
  ∃ li rh timer, t = { s with li := li, rh := rh, nc := { s.nc with timer := timer } }

theorem State.OnlyFrames.refl (s : State) : s.OnlyFrames s := ⟨_, _, _, rfl⟩

theorem State.OnlyFrames.trans (h : s.OnlyFrames t) (g : t.OnlyFrames u) : s.OnlyFrames u := by
  obtain ⟨_, _, _, rfl⟩ := h
  obtain ⟨_, _, _, rfl⟩ := g
  exact ⟨_, _, _, rfl⟩

theorem restartTimer_onlyFrames (s : State) : s.OnlyFrames (restartTimer s) := by
  unfold restartTimer
  split
  · exact ⟨_, _, _, rfl⟩
  · exact .refl s

theorem characterComplete_onlyFrames (value : Byte) (good : Bool) (s : State) :
    s.OnlyFrames (characterComplete value good s) := by
  unfold characterComplete
  split
  · exact .refl s
  · exact ⟨_, _, _, rfl⟩

theorem receiveAll_onlyFrames (cs : List Byte) (s : State) : s.OnlyFrames (receiveAll cs s) :=
  foldl_keeps (P := s.OnlyFrames) (fun _ c h => h.trans (characterComplete_onlyFrames c true _)) cs s (.refl s)

theorem sendingStart_onlyFrames (s : State) : s.OnlyFrames (sendingStart s) := by
  unfold sendingStart
  split
  · split <;> exact ⟨_, _, _, rfl⟩
  · exact .refl s
  · exact .refl s

/-- From `s` to `t` frames were handled, and one owner accepted a request or none did. -/
inductive State.Handles (s t : State) : Prop
  | frames : s.OnlyFrames t → s.Handles t
  | request (k : Kind) (b body : List Byte) (before after : State) : s.OnlyFrames before →
      owner k b before = .accept body after → after.OnlyFrames t → s.Handles t

theorem State.Handles.after_frames (h : s.OnlyFrames t) (g : t.Handles u) : s.Handles u := by
  cases g with
  | frames same => exact .frames (h.trans same)
  | request k b body before after first accepted last =>
    exact .request k b body before after (h.trans first) accepted last

/-- A request that is accepted is accepted by an owner (09 R143, R146). -/
theorem decideRequest_accept {f : Frame} {body : List Byte} (h : decideRequest f s = .accept body t) :
    ∃ k, owner k f.body s = .accept body t := by
  unfold decideRequest at h
  split at h
  · cases h
  · next k _ =>
    split at h
    · exact ⟨k, h⟩
    · cases h

theorem executeAddressed_handles (f : Frame) (s : State) : s.Handles (executeAddressed f s) := by
  unfold executeAddressed
  dsimp only
  cases decided : decideRequest f (s.hold (some (f, .executing))) with
  | refuse reason detail => exact .frames ⟨_, _, _, rfl⟩
  | accept body after =>
    obtain ⟨k, accepted⟩ := decideRequest_accept decided
    exact .request k _ body _ after ⟨_, _, _, rfl⟩ accepted ⟨_, _, _, rfl⟩

theorem takeAddressed_handles (f : Frame) (s : State) : s.Handles (takeAddressed f s) := by
  unfold takeAddressed
  split
  · split
    · exact .frames ⟨_, _, _, rfl⟩
    · exact executeAddressed_handles f s
  · exact executeAddressed_handles f s

theorem takeBroadcast_handles (f : Frame) (s : State) : s.Handles (takeBroadcast f s) := by
  unfold takeBroadcast
  split
  · split
    · next body after decided =>
      obtain ⟨k, accepted⟩ := decideRequest_accept decided
      exact .request k _ body _ after ⟨_, _, _, rfl⟩ accepted ⟨_, _, _, rfl⟩
    · exact .frames (.refl s)
  · exact .frames ⟨_, _, _, rfl⟩

theorem endFrame_handles (buf : List Byte) (s : State) : s.Handles (endFrame buf s) := by
  have counted (f) : s.OnlyFrames (s.count f) := ⟨_, _, _, rfl⟩
  unfold endFrame
  split
  · exact .frames (counted _)
  · split
    · exact .frames (counted _)
    · split
      · exact .frames (counted _)
      · unfold deliverFrame
        dsimp only
        have heard := (counted fun c => { c with good := saturate (c.good + 1) }).trans (restartTimer_onlyFrames _)
        split
        · exact .after_frames heard (takeBroadcast_handles ..)
        · exact .after_frames heard (takeAddressed_handles ..)

/-- What a gap can do (10 R159, R164, R165). -/
theorem gap_handles (s : State) : s.Handles (gap s) := by
  have ready : s.OnlyFrames (s.setRx .ready) := ⟨_, _, _, rfl⟩
  unfold gap
  split
  · exact .frames (.refl s)
  · split
    · exact .frames (.refl s)
    · exact .after_frames ready (endFrame_handles ..)
    all_goals exact .frames ready

end

end Sys2Proof.Machine
end

section
/-! Every step keeps the schedule in its firing order. Only four things touch the table: SCHEDULE,
CANCEL_ACTION, an action that fires, and what empties it, a reset or a departure from RUN. The stamp moves on
only to what is due next, or past a moment at which nothing is due. -/

namespace Sys2Proof.Machine

section
variable {s t : State}

/-! ### What the events do -/

/-- Runs, triggers and grants leave the schedule and the stamp. -/
theorem inOrder_runs : KeptByRuns State.ScheduleInOrder where
  updList _ _ _ h := h.of_same rfl rfl
  raise _ _ h := h.of_same rfl rfl
  abandon _ h := h.of_same rfl rfl
  grant s h :=
    have only := makeGrant_only s
    h.of_same only.su (by rw [only.tcu])

theorem State.ScheduleInOrder.raiseIf (h : s.ScheduleInOrder) (c : Bool) (b : NoticeBody) :
    (s.raiseIf c b).ScheduleInOrder := inOrder_runs.raiseIf h c b

theorem State.OnlyFrames.inOrder (same : s.OnlyFrames t) (h : s.ScheduleInOrder) : t.ScheduleInOrder := by
  obtain ⟨_, _, _, rfl⟩ := same
  exact h.of_same rfl rfl

theorem logEntry_inOrder (e : LogEntry) (h : s.ScheduleInOrder) : (logEntry e s).ScheduleInOrder := by
  unfold logEntry
  split
  · exact h.of_same rfl rfl
  · refine State.ScheduleInOrder.raiseIf ?_ _ _
    exact h.of_same rfl rfl

theorem acceptEdge_inOrder (k : Fin 4) (d : Direction) (stamp : Stamp) (h : s.ScheduleInOrder) :
    (acceptEdge k d stamp s).ScheduleInOrder := inOrder_runs.acceptEdge (logEntry_inOrder _ h)

theorem pinChanged_inOrder (k : Fin 4) (v : Level) (h : s.ScheduleInOrder) :
    (pinChanged k v s).ScheduleInOrder := by
  have settled (f : CaptureInput → CaptureInput) : (s.updInput k f).ScheduleInOrder := h.of_same rfl rfl
  unfold pinChanged
  dsimp only
  split
  · split
    · exact settled _
    · exact h
  · split
    · exact h
    · split
      · exact settled _
      · split
        · exact acceptEdge_inOrder _ _ _ (settled _)
        · exact settled _

theorem storeRecord_inOrder (x : Record) (toFifo : Bool) (h : s.ScheduleInOrder) :
    (storeRecord x toFifo s).1.ScheduleInOrder := by
  unfold storeRecord offer
  dsimp only
  split
  · split
    all_goals
      refine State.ScheduleInOrder.raiseIf ?_ _ _
      exact h.of_same rfl rfl
  · exact h.of_same rfl rfl

theorem watchOutput_inOrder (w : Fin 12) (a : Option WatchAction) (h : s.ScheduleInOrder) :
    (watchOutput w a s).ScheduleInOrder := by
  unfold watchOutput
  split
  · split
    · exact h.of_same rfl rfl
    · exact h
  · exact h

theorem evaluate_inOrder (r : Record) (w : Fin 12) (h : s.ScheduleInOrder) : (evaluate r s w).ScheduleInOrder := by
  have written (e) : (s.setWatch w e).ScheduleInOrder := h.of_same rfl rfl
  unfold evaluate zoneChanged
  split
  · exact h
  · split
    · exact h
    · split
      · exact written _
      · dsimp only
        split
        · split
          · exact inOrder_runs.raise _ _ (written _)
          · exact inOrder_runs.deliver (watchOutput_inOrder _ _ ((written _).raiseIf _ _))
        · exact written _

theorem complete_inOrder (c : Context) (h : s.ScheduleInOrder) : (complete c s).ScheduleInOrder := by
  have closed := inOrder_runs.abandon s h
  unfold complete
  split
  · exact closed
  · exact inOrder_runs.grant _ (inOrder_runs.recordToOwner
      (foldl_keeps (fun _ w => evaluate_inOrder _ w) allWatches _ (storeRecord_inOrder _ _ closed)))

theorem endSample_inOrder (c : Context) (level : BitVec 12) (h : s.ScheduleInOrder) :
    (endSample c level s).ScheduleInOrder := by
  unfold endSample
  dsimp only
  split
  · exact h.of_same rfl rfl
  · exact complete_inOrder _ h

theorem enterSafe_inOrder (s : State) : (enterSafe s).ScheduleInOrder :=
  .of_empty (by rw [enterSafe_eq rfl])

/-- The front entry fires at its due stamp (07 R119, R122). -/
theorem fireFront_inOrder (h : s.ScheduleInOrder) (due : s.su.due = some s.now) :
    (fireFront s).ScheduleInOrder := by
  cases front : s.su.table with
  | nil =>
    unfold fireFront
    rw [front]
    exact h
  | cons e rest =>
    have now : e.due = s.now := by simpa [ScheduleUnit.due, front] using due
    have stamp : (actionEffect e s).now = s.now := by unfold State.now; rw [actionEffect_tcu]
    rw [scheduleInOrder_iff, front] at h
    rw [scheduleInOrder_iff, fireFront_cons front]
    exact stamp ▸ h.tableAfter now

/-! ### What the owners do -/

/-- With room in the table the handle given to an entry is no other's (07 R116). -/
theorem freeHandle_unused {u : ScheduleUnit} (room : u.table.length < 255) :
    u.freeHandle ∉ u.table.map ScheduleEntry.handle := by
  obtain ⟨-, -, -, free, -⟩ := firstFree_free (used := u.handleUsed) (top := Config.topHandle)
    (fun m => (u.handleUsed_iff m).mp) (by rw [List.length_map]; exact room) u.nextHandle
  exact fun mem => Bool.eq_false_iff.mp free ((u.handleUsed_iff _).mpr mem)

/-- SCHEDULE places an entry in its order, under a handle that no other has (07 R115 to R118). -/
theorem ownSchedule_inOrder {b body : List Byte} (h : s.ScheduleInOrder)
    (e : ownSchedule b s = .accept body t) : t.ScheduleInOrder := by
  cases read : parseSchedule b s with
  | error d => rw [ownSchedule_error read] at e; cases e
  | ok x =>
    rw [ownSchedule_ok read] at e
    split at e
    · cases e
    · split at e
      · cases e
      · next room =>
        split at e <;> cases e
        next ahead =>
        rw [scheduleInOrder_iff] at h ⊢
        exact h.insert (e := x.entry _) (Nat.le_of_not_lt fun far => ahead (.inr far)) (parseSchedule_period read)
          (freeHandle_unused (by omega)) (by omega)

theorem restartTimer_inOrder (h : s.ScheduleInOrder) : (restartTimer s).ScheduleInOrder :=
  (restartTimer_onlyFrames s).inOrder h

/-- What an owner accepts keeps the schedule in order. -/
theorem owner_inOrder {k : Kind} {b body : List Byte} (h : s.ScheduleInOrder)
    (e : owner k b s = .accept body t) : t.ScheduleInOrder := by
  cases k with
  | identify | echo | status | readStamp | outputStatus | fifoStatus | restart | readLatest | clearFifo =>
    cases e; exact h.of_same rfl rfl
  | mark => cases e; exact logEntry_inOrder _ h
  | setChannel | readSteps | listStatus | readFifo | setFifoLevel | clearWatch | watchStatus | readCaptures
  | scheduleStatus | poll =>
    simp only [owner, ownSetChannel, ownReadSteps, ownListStatus, ownReadFifo, ownSetFifoLevel, ownClearWatch,
      ownWatchStatus, ownReadCaptures, ownScheduleStatus, ownPoll] at e
    split at e <;> cases e
    exact h.of_same rfl rfl
  | setWatch | clearList =>
    simp only [owner, ownSetWatch, ownClearList] at e
    split at e
    · cases e
    · split at e <;> cases e
      exact h.of_same rfl rfl
  | writeSteps | defineList =>
    simp only [owner, ownWriteSteps, ownDefineList] at e
    split at e
    · cases e
    · split at e
      · cases e
      · split at e <;> cases e
        exact h.of_same rfl rfl
  | setCapture =>
    simp only [owner, ownSetCapture] at e
    split at e <;> cases e
    exact foldl_keeps (fun u k hu => by split; exacts [hu.of_same rfl rfl, hu]) _ _ h
  | setOutput =>
    simp only [owner, ownSetOutput] at e
    split at e
    · cases e
    · split at e <;> cases e
      exact foldl_keeps (fun u k hu => by split; exacts [hu.of_same rfl rfl, hu]) _ _ h
  | setSafeLevels =>
    simp only [owner, ownSetSafeLevels] at e
    split at e <;> cases e
    refine foldl_keeps (fun u k hu => ?_) _ _ h
    split
    · split <;> exact hu.of_same rfl rfl
    · exact hu
  | go =>
    simp only [owner, ownGo] at e
    split at e <;> cases e
    · exact h
    · refine restartTimer_inOrder ?_
      exact h.of_same rfl rfl
  | halt =>
    simp only [owner, ownHalt] at e
    split at e <;> cases e
    · exact .of_empty (departRun_control ..).2
    · exact h.of_same rfl rfl
    · exact h
  | setSilence =>
    simp only [owner, ownSetSilence] at e
    split at e <;> cases e
    split
    · exact h.of_same rfl rfl
    · refine restartTimer_inOrder ?_
      exact h.of_same rfl rfl
  | convert =>
    simp only [owner, ownConvert] at e
    split at e
    · cases e
    · split at e
      · cases e
      · split at e <;> cases e
        refine inOrder_runs.afterPlacing ?_
        exact h.of_same rfl rfl
  | cancelConvert =>
    rw [owner, ownCancelConvert_eq] at e
    split at e
    · cases e
    · split at e
      · cases e; exact h.of_same rfl rfl
      · split at e <;> cases e
        · exact inOrder_runs.grant _ (inOrder_runs.abandon s h)
        · exact h
  | startList => exact inOrder_runs.ownStartList h e
  | stopList => exact inOrder_runs.ownStopList h e
  | schedule => exact ownSchedule_inOrder h e
  | cancelAction =>
    simp only [owner, ownCancelAction] at e
    split at e
    · cases e
    · split at e <;> cases e
      rw [scheduleInOrder_iff] at h ⊢
      exact h.sublist List.filter_sublist

theorem gap_inOrder (h : s.ScheduleInOrder) : (gap s).ScheduleInOrder := by
  cases gap_handles s with
  | frames same => exact same.inOrder h
  | request k b body before after first accepted last =>
    exact last.inOrder (owner_inOrder (first.inOrder h) accepted)

theorem sendingEnd_inOrder (h : s.ScheduleInOrder) : (sendingEnd s).ScheduleInOrder := by
  unfold sendingEnd
  split
  · dsimp only
    split
    · exact .of_empty rfl
    · exact h.of_same rfl rfl
  · exact h
  · exact h

/-! ### The resets and the events in time -/

theorem por_inOrder (straps : Straps) (s : State) : (por straps s).ScheduleInOrder := by
  unfold por
  split <;> exact .of_empty rfl

theorem pinReset_inOrder (h : s.ScheduleInOrder) : (pinReset s).ScheduleInOrder := by
  unfold pinReset
  split
  · exact h
  · exact .of_empty rfl

theorem pinRelease_inOrder (straps : Straps) (h : s.ScheduleInOrder) : (pinRelease straps s).ScheduleInOrder := by
  unfold pinRelease
  split
  · exact .of_empty rfl
  · exact h

/-- What is due happens with the schedule in order at its stamp. -/
theorem whenDue_inOrder {due : Option Stamp} {f : State → State} (h : s.ScheduleInOrder)
    (hf : ∀ d, due = some d → (s.advance d).ScheduleInOrder → (f (s.advance d)).ScheduleInOrder) :
    (s.whenDue due f).ScheduleInOrder := by
  rcases s.whenDue_cases due f with idle | ⟨d, at_, -, reached, happens⟩
  · rw [idle]; exact h
  · rw [happens]; exact hf d at_ (h.reach reached)

theorem calibrationEnd_inOrder (h : s.ScheduleInOrder) : (calibrationEnd s).ScheduleInOrder := by
  unfold calibrationEnd
  split
  · refine whenDue_inOrder h fun d _ hd => inOrder_runs.grant _ ?_
    exact hd.of_same rfl rfl
  · exact h

theorem checkEnd_inOrder (charged discharged : BitVec 12) (h : s.ScheduleInOrder) :
    (checkEnd charged discharged s).ScheduleInOrder := by
  unfold checkEnd
  split
  · exact whenDue_inOrder h fun d _ hd => hd.of_same rfl rfl
  · exact h

theorem settleEnd_inOrder (h : s.ScheduleInOrder) : (settleEnd s).ScheduleInOrder := by
  unfold settleEnd
  split
  · exact whenDue_inOrder h fun d _ hd => hd.of_same rfl rfl
  · exact h

theorem sampleEnd_inOrder (level : BitVec 12) (h : s.ScheduleInOrder) : (sampleEnd level s).ScheduleInOrder := by
  unfold sampleEnd
  split
  · exact whenDue_inOrder h fun d _ hd => endSample_inOrder _ level hd
  · exact h

theorem waitExpiry_inOrder (k : Fin 8) (h : s.ScheduleInOrder) : (waitExpiry k s).ScheduleInOrder := by
  unfold waitExpiry
  split
  · exact whenDue_inOrder h fun d _ hd => inOrder_runs.finishStep hd
  · exact h

theorem awaitTimeout_inOrder (k : Fin 8) (h : s.ScheduleInOrder) : (awaitTimeout k s).ScheduleInOrder := by
  unfold awaitTimeout
  split
  · exact whenDue_inOrder h fun d _ hd => inOrder_runs.endRun hd
  · exact h

theorem restReached_inOrder (k : Fin 8) (h : s.ScheduleInOrder) : (restReached k s).ScheduleInOrder := by
  unfold restReached
  split
  · exact whenDue_inOrder h fun d _ hd => inOrder_runs.beginStep (inOrder_runs.updList _ _ _ hd)
  · exact h

theorem capturePinChange_inOrder (k : Fin 4) (v : Level) (h : s.ScheduleInOrder) :
    (capturePinChange k v s).ScheduleInOrder := by
  have moved : (s.setPin k v).ScheduleInOrder := h.of_same rfl rfl
  unfold capturePinChange
  split
  · exact h
  · split
    · exact moved
    · exact pinChanged_inOrder _ _ moved

theorem debounceEnd_inOrder (k : Fin 4) (h : s.ScheduleInOrder) : (debounceEnd k s).ScheduleInOrder := by
  unfold debounceEnd
  split
  · split
    · refine whenDue_inOrder h fun d _ hd => acceptEdge_inOrder _ _ _ ?_
      exact hd.of_same rfl rfl
    · exact h
  · exact h

/-! ### Every command -/

/-- Every command keeps the schedule in order. -/
theorem exec_inOrder {i : Instr} (h : s.ScheduleInOrder) (e : exec i s = .next t) : t.ScheduleInOrder := by
  cases hi : i.request with
  | some kr =>
    rw [exec_request i kr.1 kr.2 s hi] at e
    cases e
    exact gap_inOrder ((receiveAll_onlyFrames ..).inOrder (gap_inOrder h))
  | none =>
    cases i with
    | por straps => cases e; exact por_inOrder straps s
    | pinReset => cases e; exact pinReset_inOrder h
    | pinRelease straps => cases e; exact pinRelease_inOrder straps h
    | gap => cases e; exact gap_inOrder h
    | sendingStart => cases e; exact (sendingStart_onlyFrames s).inOrder h
    | sendingEnd => cases e; exact sendingEnd_inOrder h
    | characterComplete value good => cases e; exact (characterComplete_onlyFrames ..).inOrder h
    | calibrationEnd => cases e; exact calibrationEnd_inOrder h
    | checkEnd charged discharged => cases e; exact checkEnd_inOrder _ _ h
    | settleEnd => cases e; exact settleEnd_inOrder h
    | sampleEnd level => cases e; exact sampleEnd_inOrder level h
    | waitExpiry k => cases e; exact waitExpiry_inOrder k h
    | awaitTimeout k => cases e; exact awaitTimeout_inOrder k h
    | restStamp k => cases e; exact restReached_inOrder k h
    | capturePinChange k v => cases e; exact capturePinChange_inOrder k v h
    | debounceEnd k => cases e; exact debounceEnd_inOrder k h
    | actionFiring => cases e; exact whenDue_inOrder h fun d due hd => fireFront_inOrder hd due
    | silenceExpiry => cases e; exact whenDue_inOrder h fun d _ _ => enterSafe_inOrder _
    | _ => cases hi

/-- Settles O58: the front command keeps the order, and so does what the node does by itself, an event due
now or one microsecond. -/
theorem stepKeepsScheduleInOrder : Obligations.StepKeepsScheduleInOrder := by
  intro s t h e
  cases waiting : s.pending with
  | cons i rest =>
    unfold step at e
    rw [waiting] at e
    exact exec_inOrder (s := s.withPending rest) (h.of_same rfl rfl) e
  | nil =>
    rw [step_idle waiting] at e
    cases held : s.resetHeld with
    | true =>
      rw [idleStep_held held] at e
      cases e
      exact h
    | false =>
      by_cases quiet : eventsNow s = []
      · rw [idleStep_quiet held quiet] at e
        cases e
        exact h.pass quiet
      · obtain ⟨i, -, taken⟩ := idleStep_due held quiet
        rw [taken] at e
        exact exec_inOrder (s := s.useFree) (h.of_same rfl rfl) e

end

end Sys2Proof.Machine
end

section
/-! The notice queue's own operations keep its shape (08 R129 to R136): a notice appended, a loss counted, an
acknowledgement, a delivery. -/

namespace Sys2Proof.Machine

/-! ### Sequence numbers, delivered notices, and the NOTICES_LOST -/

/-- Consecutive numbers are a chain from the oldest notice to the next notice sequence (08 R129). -/
theorem consecutive_iff (l : List Notice) (next : Nat) : consecutive l next = true ↔
    (l.map Notice.seq ++ [next]).IsChain fun a b => nextNoticeSeq a = b := by
  induction l with
  | nil => simp [consecutive]
  | cons n l ih => cases l <;> simp_all [consecutive]

theorem consecutive_append {l : List Notice} {n : Notice} (h : consecutive l n.seq = true) :
    consecutive (l ++ [n]) (nextNoticeSeq n.seq) = true := by
  rw [consecutive_iff] at h ⊢
  rw [List.map_append]
  exact h.append (List.isChain_singleton _) (by simp)

theorem consecutive_drop {l : List Notice} {next : Nat} (h : consecutive l next = true) (i : Nat) :
    consecutive (l.drop i) next = true := by
  rw [consecutive_iff] at h ⊢
  rw [List.map_drop]
  exact h.suffix ((List.suffix_append_inj_of_length_eq rfl).mpr ⟨List.drop_suffix .., rfl⟩)

/-- An unbroken run of delivered notices from the oldest: before a delivered one all are (08 R129). -/
theorem deliveredFirst_iff (l : List Notice) :
    (l.dropWhile Notice.delivered).all (fun n => !n.delivered) = true ↔
      l.Pairwise fun x y => y.delivered = true → x.delivered = true := by
  induction l with
  | nil => simp
  | cons n l ih =>
    cases first : n.delivered with
    | true => simpa [first] using ih
    | false =>
      have unbroken : (∀ y ∈ l, y.delivered = false) →
          l.Pairwise fun x y => y.delivered = true → x.delivered = true :=
        fun none => List.pairwise_of_forall_mem_list fun x _ y hy => by simp [none y hy]
      simpa [first] using unbroken

theorem NoticeQueue.hasLost_false {q : NoticeQueue} :
    q.hasLost = false ↔ q.notices.countP Notice.isLost = 0 := by
  simp [NoticeQueue.hasLost, List.countP_eq_zero]

/-- A notice that a block raises, that is any but NOTICES_LOST (08 R127, R130). -/
def NoticeBody.isOrdinary : NoticeBody → Bool
  | .noticesLost _ _ => false
  | _ => true

theorem Notice.isLost_eq (n : Notice) : n.isLost = !n.body.isOrdinary := by
  unfold Notice.isLost NoticeBody.isOrdinary
  cases n.body <;> rfl

theorem Notice.isLost_iff {n : Notice} : n.isLost = true ↔ ∃ c f, n.body = .noticesLost c f := by
  unfold Notice.isLost
  cases n.body <;> simp

theorem Notice.isLost_of_body {n : Notice} {c : Nat} {f : Stamp} (h : n.body = .noticesLost c f) :
    n.isLost = true := isLost_iff.mpr ⟨c, f, h⟩

theorem nextNoticeSeq_mem (n : Nat) : 1 ≤ nextNoticeSeq n ∧ nextNoticeSeq n ≤ 65535 := by
  unfold nextNoticeSeq
  split <;> omega

namespace NoticeQueue.Shaped

variable {q : NoticeQueue}

/-! ### A notice raised -/

/-- A notice at the back, where there is room (08 R129). -/
theorem append (h : q.Shaped) (now : Stamp) {b : NoticeBody} (ordinary : b.isOrdinary = true)
    (room : q.hasRoom = true) : (q.append now b).Shaped where
  bounded := by
    rw [append_notices, List.length_append, List.length_singleton]
    rcases q.hasRoom_iff.mp room with ⟨-, short⟩ | ⟨-, short⟩ <;> omega
  lastPlace none := by
    rcases q.hasRoom_iff.mp room with ⟨lost, -⟩ | ⟨-, short⟩
    · simp [lost] at none
    · simpa using Nat.lt_succ_of_le short
  oneLost := by simpa [Notice.isLost_eq, ordinary] using h.oneLost
  numbers := nextNoticeSeq_mem _
  sequence := consecutive_append h.sequence
  deliveredFirst := by
    rw [deliveredFirst_iff]
    simpa [List.pairwise_append] using (deliveredFirst_iff _).mp h.deliveredFirst
  record := by simpa [Notice.isLost_eq, ordinary] using h.record
  agrees n hn c f body := by
    rcases List.mem_append.mp hn with old | new
    · exact h.agrees n old c f body
    · cases List.mem_singleton.mp new
      cases body
      cases ordinary

/-- A NOTICES_LOST at the back, where none is queued: in the last place at the latest (08 R130, R136). -/
theorem appendLost (h : q.Shaped) (noLost : q.hasLost = false) (now first : Stamp) {n : Nat}
    (some : 1 ≤ n) (most : n ≤ 65535) : (q.appendLost now n first).Shaped where
  bounded := by simpa using Nat.lt_succ_of_le (h.lastPlace noLost)
  lastPlace none := by simp [hasLost, Notice.isLost] at none
  oneLost := by
    simp [hasLost_false.mp noLost, Notice.isLost]
  numbers := nextNoticeSeq_mem _
  sequence := consecutive_append h.sequence
  deliveredFirst := by
    rw [deliveredFirst_iff]
    simpa [List.pairwise_append] using (deliveredFirst_iff _).mp h.deliveredFirst
  record := by simp [hasLost, Notice.isLost]
  agrees x hx c f body := by
    rcases List.mem_append.mp hx with old | new
    · have absent := (List.any_eq_false.mp noLost) x old
      exact absurd (Notice.isLost_of_body body) absent
    · cases List.mem_singleton.mp new
      cases body
      exact ⟨_, rfl, rfl, rfl, Nat.zero_le _, some, most⟩

/-- A loss counted into the NOTICES_LOST that is queued, and into its record (08 R130). -/
theorem countLoss (h : q.Shaped) (now : Stamp) : ({ q with
    notices := q.notices.map Notice.countLoss, lost := q.lost.map fun r => r.countLoss now } :
      NoticeQueue).Shaped where
  bounded := by simpa using h.bounded
  lastPlace none := by
    refine (List.length_map _).trans_le (h.lastPlace ?_)
    simpa [hasLost, Function.comp_def] using none
  oneLost := by simpa [List.countP_map, Function.comp_def] using h.oneLost
  numbers := h.numbers
  sequence := by
    have same : (q.notices.map Notice.countLoss).map Notice.seq = q.notices.map Notice.seq := by simp
    rw [consecutive_iff, same, ← consecutive_iff]
    exact h.sequence
  deliveredFirst := by
    rw [deliveredFirst_iff, List.pairwise_map]
    simpa using (deliveredFirst_iff _).mp h.deliveredFirst
  record := by simpa [hasLost, Function.comp_def] using h.record
  agrees n hn c f body := by
    obtain ⟨x, hx, rfl⟩ := List.mem_map.mp hn
    obtain ⟨c, f, old⟩ := Notice.isLost_iff.mp (x.countLoss_isLost ▸ Notice.isLost_of_body body)
    obtain ⟨r, record, rfl, rfl, carried, some, most⟩ := h.agrees x hx c f old
    unfold Notice.countLoss at body
    rw [old] at body
    cases body
    refine ⟨r.countLoss now, by simp [record], rfl, rfl, ?_⟩
    simp only [saturate, Config.saturation, LostRecord.countLoss]
    omega

/-- A notice raised by a block keeps the shape (08 R129, R130). -/
theorem raise (h : q.Shaped) (now : Stamp) {b : NoticeBody} (ordinary : b.isOrdinary = true) :
    (q.raise now b).Shaped := by
  rcases q.raise_cases now b with ⟨room, e⟩ | ⟨-, none, e⟩ | ⟨-, -, e⟩ <;> rw [e]
  · exact h.append now ordinary room
  · exact h.appendLost none now now (Nat.le_refl 1) (by decide)
  · exact h.countLoss now

/-! ### POLL -/

/-- The oldest notices removed, the NOTICES_LOST not among them (08 R133). -/
theorem drop (h : q.Shaped) {i : Nat} (kept : (q.notices.take i).any Notice.isLost = false) :
    ({ q with notices := q.notices.drop i } : NoticeQueue).Shaped := by
  have lost : ({ q with notices := q.notices.drop i } : NoticeQueue).hasLost = q.hasLost := by
    have parts := List.any_append (f := Notice.isLost) (xs := q.notices.take i) (ys := q.notices.drop i)
    rw [List.take_append_drop, kept, Bool.false_or] at parts
    exact parts.symm
  have shorter := List.drop_sublist i q.notices
  exact
    { h with
      bounded := shorter.length_le.trans h.bounded
      lastPlace := fun none => shorter.length_le.trans (h.lastPlace (lost ▸ none))
      oneLost := (shorter.countP_le ..).trans h.oneLost
      sequence := consecutive_drop h.sequence i
      deliveredFirst := by
        rw [deliveredFirst_iff]
        exact ((deliveredFirst_iff _).mp h.deliveredFirst).sublist shorter
      record := lost ▸ h.record
      agrees := fun n hn => h.agrees n (shorter.subset hn) }

/-- The oldest notices removed and the NOTICES_LOST among them, its record with it (08 R131, R133). -/
theorem dropLost (h : q.Shaped) {i : Nat} (gone : (q.notices.take i).any Notice.isLost = true) :
    ({ q with notices := q.notices.drop i, lost := none } : NoticeQueue).Shaped ∧
      (q.notices.drop i).countP Notice.isLost = 0 := by
  have noneLeft : (q.notices.drop i).countP Notice.isLost = 0 := by
    have one := h.oneLost
    rw [← List.take_append_drop i q.notices, List.countP_append] at one
    have some : 0 < (q.notices.take i).countP Notice.isLost := List.countP_pos_iff.mpr (List.any_eq_true.mp gone)
    omega
  have short : (q.notices.drop i).length ≤ 31 := by
    have removed : i ≠ 0 := by rintro rfl; simp at gone
    have := h.bounded
    rw [List.length_drop]
    omega
  have noLost := hasLost_false (q := { q with notices := q.notices.drop i, lost := none }).mpr noneLeft
  refine ⟨{
    bounded := short.trans (by decide)
    lastPlace := fun _ => short
    oneLost := noneLeft.trans_le (Nat.zero_le _)
    numbers := h.numbers
    sequence := consecutive_drop h.sequence i
    deliveredFirst := by
      rw [deliveredFirst_iff]
      exact ((deliveredFirst_iff _).mp h.deliveredFirst).sublist (List.drop_sublist ..)
    record := noLost.symm
    agrees := fun n hn c f body =>
      absurd (Notice.isLost_of_body body) (List.countP_eq_zero.mp noneLeft n hn) }, noneLeft⟩

/-- The NOTICES_LOST acknowledged: losses not yet shown are carried over into a new one (08 R136). -/
theorem carryOver (h : q.Shaped) (now : Stamp) {i : Nat} (gone : (q.notices.take i).any Notice.isLost = true) :
    (({ q with notices := q.notices.drop i } : NoticeQueue).carryOver now).Shaped := by
  obtain ⟨left, noneLeft⟩ := h.dropLost gone
  obtain ⟨n, hn, isLost⟩ := List.any_eq_true.mp gone
  obtain ⟨c, f, body⟩ := Notice.isLost_iff.mp isLost
  obtain ⟨r, record, rfl, -, -, -, most⟩ := h.agrees n (List.mem_of_mem_take hn) c f body
  unfold NoticeQueue.carryOver
  simp only [record]
  split
  · exact left.appendLost (hasLost_false.mpr noneLeft) now _ (by omega) (by omega)
  · exact left

/-- An acknowledgement keeps the shape (08 R133, R136). -/
theorem acknowledge (h : q.Shaped) (now : Stamp) (a : Nat) : (q.acknowledge now a).1.Shaped := by
  rcases q.acknowledge_cases now a with ⟨-, e⟩ | ⟨-, -, e⟩ | ⟨i, -, -, e⟩ <;> rw [e]
  · exact h
  · exact h
  · dsimp only
    split
    · next gone => exact h.carryOver now gone
    · next kept => exact h.drop (Bool.eq_false_iff.mpr kept)

/-- What a delivery does not touch in a notice, it leaves in every notice (08 R134). -/
theorem map_deliver {α : Type} (q : NoticeQueue) (n : Nat) (g : Notice → α)
    (same : ∀ x : Notice, g { x with delivered := true } = g x) :
    (q.deliver n).notices.map g = q.notices.map g := by
  have carried : ((q.notices.take n).map fun x => { x with delivered := true }).map g =
      (q.notices.take n).map g := by
    rw [List.map_map]
    exact List.map_congr_left fun x _ => same x
  unfold NoticeQueue.deliver
  rw [List.map_append, carried, ← List.map_append, List.take_append_drop]

/-- A delivery keeps the shape: the notices carried are the oldest (08 R134), and the losses carried are all
that are counted (08 R131). -/
theorem deliver (h : q.Shaped) (n : Nat) : (q.deliver n).Shaped := by
  have length : (q.deliver n).notices.length = q.notices.length := by
    simpa using congrArg List.length (map_deliver q n Notice.seq fun _ => rfl)
  have losses : (q.deliver n).notices.map Notice.isLost = q.notices.map Notice.isLost :=
    map_deliver q n _ fun _ => rfl
  have hasLost : (q.deliver n).hasLost = q.hasLost := by
    simpa [NoticeQueue.hasLost, Function.comp_def] using congrArg (fun l : List Bool => l.any id) losses
  exact
    { bounded := length.trans_le h.bounded
      lastPlace := fun none => length.trans_le (h.lastPlace (hasLost ▸ none))
      oneLost := by
        have count := congrArg (List.countP id) losses
        rw [List.countP_map, List.countP_map] at count
        exact count.trans_le h.oneLost
      numbers := h.numbers
      sequence := by
        rw [consecutive_iff, map_deliver q n _ fun _ => rfl, ← consecutive_iff]
        exact h.sequence
      deliveredFirst := by
        have before := (deliveredFirst_iff _).mp h.deliveredFirst
        refine (deliveredFirst_iff _).mpr (List.pairwise_append.mpr
          ⟨?_, before.sublist (List.drop_sublist ..), fun x hx _ _ _ => ?_⟩)
        · exact List.pairwise_map.mpr (List.pairwise_of_forall fun _ _ _ => rfl)
        · obtain ⟨y, -, rfl⟩ := List.mem_map.mp hx
          rfl
      record := by
        rw [hasLost, ← h.record]
        unfold NoticeQueue.deliver
        dsimp only
        split <;> simp
      agrees := fun x hx c f body => by
        have mem : x.body ∈ q.notices.map Notice.body :=
          map_deliver q n Notice.body (fun _ => rfl) ▸ List.mem_map_of_mem hx
        obtain ⟨y, hy, same⟩ := List.mem_map.mp mem
        obtain ⟨r, record, rfl, rfl, carried, bounds⟩ := h.agrees y hy c f (same.trans body)
        unfold NoticeQueue.deliver
        dsimp only
        split
        · exact ⟨r.shown, by rw [record]; rfl, rfl, rfl, Nat.le_refl _, bounds⟩
        · exact ⟨r, record, rfl, rfl, carried, bounds⟩ }

end NoticeQueue.Shaped

/-- The empty queue of a reset (11 R170). -/
theorem NoticeQueue.reset_shaped : NoticeQueue.reset.Shaped where
  bounded := by decide
  lastPlace := by decide
  oneLost := by decide
  numbers := by decide
  sequence := rfl
  deliveredFirst := rfl
  record := rfl
  agrees := nofun

end Sys2Proof.Machine
end

section
/-! A notice raised, and the POLL request: its acknowledgement, the notices a reply carries, and its verdict
(08 R129 to R136). -/

namespace Sys2Proof.Machine

section
variable {q : NoticeQueue}

/-! ### A notice raised -/

theorem NoticeQueue.raise_room (now : Stamp) (b : NoticeBody) (room : q.hasRoom = true) :
    q.raise now b = q.append now b := if_pos room

/-- The first loss (08 R130). -/
theorem NoticeQueue.raise_first (now : Stamp) (b : NoticeBody) (first : q.hasLost = false)
    (full : 31 ≤ q.notices.length) : q.raise now b = q.appendLost now 1 now := by
  have noRoom : ¬ q.hasRoom = true := fun room => by
    rcases q.hasRoom_iff.mp room with ⟨lost, -⟩ | ⟨-, short⟩
    · exact Bool.eq_false_iff.mp first lost
    · omega
  exact (if_neg noRoom).trans (if_neg (Bool.eq_false_iff.mp first))

/-- A further loss (08 R130). -/
theorem NoticeQueue.raise_further (now : Stamp) (b : NoticeBody) (further : q.hasLost = true)
    (full : 32 ≤ q.notices.length) : q.raise now b = { q with
      notices := q.notices.map Notice.countLoss, lost := q.lost.map fun r => r.countLoss now } := by
  have noRoom : ¬ q.hasRoom = true := fun room => by
    rcases q.hasRoom_iff.mp room with ⟨-, short⟩ | ⟨-, short⟩ <;> omega
  exact (if_neg noRoom).trans (if_pos further)

/-- Settles O50: by the room left, and then by whether a NOTICES_LOST is queued. -/
theorem noticeRaised : Obligations.NoticeRaised := by
  intro q now b following
  refine ⟨fun room => ?room, fun first full => ?first, fun further full => ?further⟩
  case room =>
    refine NoticeQueue.raise_room now b (q.hasRoom_iff.mpr ?_)
    rcases room with ⟨none, short⟩ | ⟨one, short⟩
    · exact .inr ⟨none, Nat.le_of_lt_succ short⟩
    · exact .inl ⟨one, Nat.le_of_lt_succ short⟩
  case first => exact NoticeQueue.raise_first now b first full
  case further => exact NoticeQueue.raise_further now b further full

/-! ### The acknowledgement -/

/-- Nothing is acknowledged (08 R133). -/
theorem NoticeQueue.acknowledge_zero (now : Stamp) {a : Nat} (zero : a = 0) :
    q.acknowledge now a = (q, false) := if_pos zero

/-- No delivered notice has the sequence acknowledged (08 R133). -/
theorem NoticeQueue.acknowledge_unmatched (now : Stamp) {a : Nat} (some : a ≠ 0)
    (unmatched : ∀ x ∈ q.notices, x.delivered = true → x.seq ≠ a) : q.acknowledge now a = (q, true) := by
  have notFound : (q.notices.findIdx? fun n => n.delivered && n.seq == a) = none := by
    simpa [List.findIdx?_eq_none_iff] using unmatched
  unfold NoticeQueue.acknowledge
  rw [if_neg some, notFound]

/-- The first delivered notice with the sequence acknowledged goes, and all before it (08 R133). -/
theorem NoticeQueue.acknowledge_matched (now : Stamp) {a : Nat} {before after : List Notice} {x : Notice}
    (some : a ≠ 0) (split : q.notices = before ++ x :: after) (delivered : x.delivered = true) (seq : x.seq = a)
    (first : ∀ y ∈ before, y.delivered = true → y.seq ≠ a) :
    q.acknowledge now a =
      (if (before ++ [x]).any Notice.isLost then { q with notices := after }.carryOver now
        else { q with notices := after }, false) := by
  have notBefore : (before.findIdx? fun n => n.delivered && n.seq == a) = none := by
    simpa [List.findIdx?_eq_none_iff] using first
  have found : (q.notices.findIdx? fun n => n.delivered && n.seq == a) = .some before.length := by
    rw [split, List.findIdx?_append, notBefore]
    simp [List.findIdx?_cons, delivered, seq]
  have regrouped : q.notices = (before ++ [x]) ++ after := by rw [split, List.append_assoc]; rfl
  have length : before.length + 1 = (before ++ [x]).length := by simp
  unfold NoticeQueue.acknowledge
  rw [if_neg some, found]
  dsimp only
  rw [length, regrouped, List.take_left, List.drop_left]

/-- The losses of an acknowledged NOTICES_LOST that no reply has shown (08 R136). -/
theorem NoticeQueue.carryOver_some (now : Stamp) {r : LostRecord} (record : q.lost = some r) :
    q.carryOver now = if r.carried < r.lost then
        { q with lost := none }.appendLost now (r.lost - r.carried) (r.firstUncarried.getD now)
      else { q with lost := none } := by
  unfold NoticeQueue.carryOver
  rw [record]

/-! ### The notices carried -/

theorem carriedNotices_length_le (most room : Nat) (l : List Notice) :
    (carriedNotices most room l).length ≤ l.length := by
  rw [(carriedNotices_take l most room).1]
  exact List.length_take_le' ..

theorem noticeBytes_length (n : Notice) : (noticeBytes n).length = 8 + n.body.bytes.length := by
  simp only [noticeBytes, List.length_append, u8_length, u16_length, u32_length]

/-- The notices carried fit the room, and one more would not (08 R134). -/
theorem carriedNotices_fit (l : List Notice) : ∀ most room : Nat,
    let n := (carriedNotices most room l).length
    ((l.take n).flatMap noticeBytes).length ≤ room ∧
      (n < most → n < l.length → room < ((l.take (n + 1)).flatMap noticeBytes).length) := by
  induction l with
  | nil => intro most room; cases most <;> simp [carriedNotices]
  | cons x l ih =>
    intro most room
    cases most with
    | zero => simp [carriedNotices]
    | succ m =>
      simp only [carriedNotices, ← noticeBytes_length]
      split
      · next fits =>
        obtain ⟨rest, greatest⟩ := ih m (room - (noticeBytes x).length)
        simp only [List.length_cons, List.take_succ_cons, List.flatMap_cons, List.length_append]
        exact ⟨by omega, fun below short => by
          have := greatest (by omega) (by omega)
          omega⟩
      · simpa using by omega

/-! ### POLL -/

/-- POLL is refused for a count outside 1 to 16; else it acknowledges, carries and delivers (08 R132). -/
theorem ownPoll_eq (b : List Byte) (s : State) : ownPoll b s =
    let most := byteAt b 2
    let acked := s.nq.acknowledge s.tcu.stamp (wordAt b 0)
    let n := (carriedNotices most 238 acked.1.notices).length
    if most = 0 ∨ 16 < most then .refuse .field 3
    else .accept (u8 acked.1.notices.length
        ++ [(if acked.2 then 1 else 0) + (if n < acked.1.notices.length then 2 else 0)]
        ++ (acked.1.notices.take n).flatMap noticeBytes) { s with nq := acked.1.deliver n } := by
  have flags : ∀ c d : Bool, u8 (pollFlags c d) = [(if c then 1 else 0) + (if d then 2 else 0)] := by decide
  unfold ownPoll
  simp only [flags, decide_eq_true_eq, Bool.or_eq_true, beq_iff_eq]
  rw [← (carriedNotices_take ..).1]
  rfl

end

/-- Settles O51: the queue after the acknowledgement, and the notices carried from it. -/
theorem pollCarriesNotices : Obligations.PollCarriesNotices := by
  intro r s h len u ack most
  have length : bodyLengthOk .poll r.body = true := by simp [bodyLengthOk, len]
  have verdict := ownPoll_eq r.body (s.taken .poll r)
  have executed := exec_refusesOrAccepts (i := .poll r) rfl h length verdict
  refine ⟨fun bad => executed.trans (by rw [if_pos bad]), fun some atMost => ?_⟩
  let acked := s.nq.acknowledge s.tcu.stamp ack
  have ⟨fits, greatest⟩ := carriedNotices_fit acked.1.notices most 238
  refine ⟨acked.1, acked.2, (carriedNotices most 238 acked.1.notices).length, fun zero => ?zero,
    fun nonzero none => ?unmatched, fun before x after nonzero split delivered seq first => ?matched,
    (carriedNotices_take ..).2, carriedNotices_length_le .., fits, greatest, ?executed⟩
  case zero =>
    have same : acked = (s.nq, false) := NoticeQueue.acknowledge_zero _ zero
    simp [same]
  case unmatched =>
    have same : acked = (s.nq, true) := NoticeQueue.acknowledge_unmatched _ nonzero none
    simp [same]
  case matched =>
    have removed := NoticeQueue.acknowledge_matched s.tcu.stamp nonzero split delivered seq first
    refine ⟨congrArg Prod.snd removed, fun kept => ?_, fun gone l record => ?_⟩
    · have noLost : ¬ (before ++ [x]).any Notice.isLost = true := by
        rw [Bool.not_eq_true, List.any_eq_false]
        exact fun y hy => Bool.eq_false_iff.mp (kept y hy)
      exact (congrArg Prod.fst removed).trans (if_neg noLost)
    · have lost : (before ++ [x]).any Notice.isLost = true := List.any_eq_true.mpr gone
      exact ((congrArg Prod.fst removed).trans (if_pos lost)).trans
        (NoticeQueue.carryOver_some (q := { s.nq with notices := after }) _ record)
  case executed =>
    have good : ¬ (most = 0 ∨ 16 < most) := by omega
    exact executed.trans (congrArg Host.Outcome.next (if_neg good))

end Sys2Proof.Machine
end

section
/-! Every step keeps the shape of the notice queue. A block reaches the queue only by raising a notice of its
own kind, and no block's kind is NOTICES_LOST, which only a loss and an acknowledgement append (08 R130, R136).
So runs, triggers and records are walked through once for the notices they raise; `KeptByRuns`, which is about
notices of every kind, does not say this. -/

namespace Sys2Proof.Machine

/-- The notice queue has its shape (08 R129, R131). -/
def State.NoticesShaped (s : State) : Prop := s.nq.Shaped

section
variable {s t : State} {k : Fin 8} {closing : Bool}

/-! ### What raises no notice -/

theorem makeGrant_nq (s : State) : (makeGrant s).nq = s.nq := by
  have list (k : Fin 8) : (grantList s k).nq = s.nq := by
    unfold grantList
    split <;> rfl
  rcases makeGrant_cases s with e | ⟨-, -, x, rest, -, e⟩ | ⟨-, -, -, k, -, e⟩ <;> rw [e]
  · rfl
  · exact list k

theorem grantUnless_nq (closing : Bool) (s : State) : (grantUnless closing s).nq = s.nq := by
  cases closing
  · exact makeGrant_nq s
  · rfl

theorem beginStep_nq (closing : Bool) (k : Fin 8) (s : State) : (beginStep closing k s).nq = s.nq := by
  unfold beginStep
  split
  · exact grantUnless_nq ..
  all_goals rfl

theorem startRun_nq (closing : Bool) (k : Fin 8) (s : State) : (startRun closing k s).nq = s.nq :=
  beginStep_nq ..

theorem leaveConverter_nq (k : Fin 8) (s : State) : (leaveConverter k s).nq = s.nq := by
  unfold leaveConverter
  split
  · exact State.abandonList_nq ..
  · rfl

theorem markWaiting_nq (input : Fin 4) (s : State) : (markWaiting input s).nq = s.nq :=
  foldl_keeps (P := fun t => t.nq = s.nq) (fun t k ht => by split <;> exact ht) allLists s rfl

theorem afterPlacing_nq (s : State) : (afterPlacing s).nq = s.nq := by
  unfold afterPlacing
  split <;> exact makeGrant_nq _

namespace State.NoticesShaped

theorem of_nq (h : s.NoticesShaped) (same : t.nq = s.nq) : t.NoticesShaped := by
  unfold State.NoticesShaped
  rw [same]
  exact h

theorem raise (h : s.NoticesShaped) {b : NoticeBody} (ordinary : b.isOrdinary = true) :
    (s.raise b).NoticesShaped := NoticeQueue.Shaped.raise h s.now ordinary

theorem raiseIf (h : s.NoticesShaped) (c : Bool) {b : NoticeBody} (ordinary : b.isOrdinary = true) :
    (s.raiseIf c b).NoticesShaped := by
  cases c
  · exact h
  · exact h.raise ordinary

/-! ### Runs and triggers -/

theorem startRun (h : s.NoticesShaped) : (startRun closing k s).NoticesShaped := h.of_nq (startRun_nq ..)

theorem closeRun (h : s.NoticesShaped) (reason : EndReason) : (closeRun k reason s).NoticesShaped := by
  have left : (leaveConverter k s).NoticesShaped := h.of_nq (leaveConverter_nq k s)
  exact raiseIf (s := (leaveConverter k s).updList k _) left _ rfl

theorem retrigger (h : s.NoticesShaped) (p : Policy) : (retrigger closing k p s).NoticesShaped := by
  unfold Machine.retrigger
  split
  · exact h
  · exact h
  · exact (h.closeRun _).startRun.of_nq (grantUnless_nq ..)

theorem takeTrigger (h : s.NoticesShaped) (src : TriggerSource) :
    (takeTrigger closing src k s).NoticesShaped := by
  unfold Machine.takeTrigger
  split
  · exact h
  · split
    · split
      · exact h.startRun
      · exact h.retrigger _
      · exact h.retrigger _
      · exact h
      · exact h
    · exact h

theorem deliver (h : s.NoticesShaped) (src : TriggerSource) : (deliver closing src s).NoticesShaped :=
  foldl_keeps (P := NoticesShaped) (fun _ _ ht => ht.takeTrigger src) allLists s h

theorem chain (h : s.NoticesShaped) : (chain closing k s).NoticesShaped := by
  have delivered := h.deliver (closing := closing) (.listDone k)
  unfold Machine.chain
  generalize Machine.deliver closing (.listDone k) s = u at delivered ⊢
  dsimp only
  split
  · exact startRun (s := u.updList ..) delivered
  · exact delivered

theorem endRun (h : s.NoticesShaped) (reason : EndReason) : (endRun closing k reason s).NoticesShaped := by
  unfold Machine.endRun
  dsimp only
  split
  · exact (h.closeRun _).chain
  · exact h.closeRun _

/-! ### Passes, steps and records -/

theorem countPass (h : s.NoticesShaped) (d : ListDef) : (countPass d k s).NoticesShaped :=
  raiseIf (s := s.updList k _) h _ rfl

theorem nextPass (h : s.NoticesShaped) : (nextPass closing k s).NoticesShaped := h.of_nq (beginStep_nq ..)

theorem endPass (h : s.NoticesShaped) (d : ListDef) : (endPass closing d k s).NoticesShaped := by
  have counted := h.countPass (k := k) d
  unfold Machine.endPass restOrOverrun
  dsimp only
  split
  · exact counted.endRun _
  · split
    · exact counted.endRun _
    · split
      · exact counted.nextPass
      · split
        · exact counted
        · exact (raiseIf (s := (Machine.countPass ..).updList ..) counted _ rfl).nextPass

theorem finishStep (h : s.NoticesShaped) : (finishStep closing k s).NoticesShaped := by
  unfold Machine.finishStep
  split
  · exact h
  · dsimp only
    split
    · exact h.of_nq (beginStep_nq ..)
    · exact endPass (s := s.updList ..) h _

theorem recordToList (h : s.NoticesShaped) (dropped : Bool) : (recordToList k dropped s).NoticesShaped := by
  unfold Machine.recordToList endOnDrop
  split
  · dsimp only
    split
    · exact h
    · split
      · refine endRun ?_ _
        split
        · exact h
        · exact countPass (s := (s.updList ..).updList ..) h _
      · exact finishStep (s := s.updList ..) h
  · exact h

theorem recordToOwner (h : s.NoticesShaped) (o : Owner) (x : Record) (d : Disposition) :
    (recordToOwner o x d s).NoticesShaped := by
  cases o with
  | list k step => exact h.recordToList _
  | ticket n toFifo notify => exact h.raiseIf _ rfl

/-! ### Edges -/

theorem logEntry (h : s.NoticesShaped) (e : LogEntry) : (logEntry e s).NoticesShaped := by
  unfold Machine.logEntry
  split
  · exact h
  · refine raiseIf ?_ _ rfl
    exact h

theorem finishWaiting (h : s.NoticesShaped) : (finishWaiting s).NoticesShaped :=
  foldl_keeps (P := NoticesShaped) (fun t k ht => by split; exacts [ht.finishStep, ht]) allLists s h

theorem acceptEdge (h : s.NoticesShaped) (k : Fin 4) (d : Direction) (stamp : Stamp) :
    (acceptEdge k d stamp s).NoticesShaped := by
  have marked := (h.logEntry (.edge k d stamp)).of_nq (markWaiting_nq k _)
  exact (marked.deliver _).finishWaiting.raiseIf _ rfl

theorem pinChanged (h : s.NoticesShaped) (k : Fin 4) (v : Level) : (pinChanged k v s).NoticesShaped := by
  unfold Machine.pinChanged
  dsimp only
  split
  · split <;> exact h
  · split
    · exact h
    · split
      · exact h
      · split
        · exact acceptEdge (s := s.updInput ..) h _ _ _
        · exact h

/-! ### A conversion completes -/

theorem storeRecord (h : s.NoticesShaped) (x : Record) (toFifo : Bool) :
    (storeRecord x toFifo s).1.NoticesShaped := by
  unfold Machine.storeRecord offer
  dsimp only
  split
  · split
    all_goals
      refine raiseIf ?_ _ rfl
      exact h
  · exact h

theorem watchOutput (h : s.NoticesShaped) (w : Fin 12) (a : Option WatchAction) :
    (watchOutput w a s).NoticesShaped := by
  unfold Machine.watchOutput
  split
  · split <;> exact h
  · exact h

theorem zoneChanged (h : s.NoticesShaped) (w : Fin 12) (d : WatchDef) (old : Option Zone) (new : Zone)
    (x : Record) : (zoneChanged w d old new x s).NoticesShaped := by
  cases old with
  | none => exact h.raise rfl
  | some z => exact ((h.raiseIf _ rfl).watchOutput _ _).deliver _

theorem evaluate (h : s.NoticesShaped) (x : Record) (w : Fin 12) : (evaluate x s w).NoticesShaped := by
  unfold Machine.evaluate
  split
  · exact h
  · split
    · exact h
    · split
      · exact h
      · dsimp only
        split
        · exact zoneChanged (s := s.setWatch ..) h _ _ _ _ _
        · exact h

theorem complete (h : s.NoticesShaped) (c : Context) : (complete c s).NoticesShaped := by
  unfold Machine.complete
  split
  · exact h
  · have stored (x) (toFifo) := storeRecord (s := s.abandon) h x toFifo
    have evaluated (x y) (toFifo) : (evaluateAll y (Machine.storeRecord x toFifo s.abandon).1).NoticesShaped :=
      foldl_keeps (P := NoticesShaped) (fun _ w ht => ht.evaluate y w) allWatches _ (stored x toFifo)
    exact ((evaluated _ _ _).recordToOwner _ _ _).of_nq (makeGrant_nq _)

theorem endSample (h : s.NoticesShaped) (c : Context) (level : BitVec 12) :
    (endSample c level s).NoticesShaped := by
  unfold Machine.endSample
  dsimp only
  split
  · exact h
  · exact h.complete _

/-! ### The node leaving RUN, and an action that fires -/

theorem disarm (h : s.NoticesShaped) (reason : EndReason) : (disarm k reason s).NoticesShaped :=
  raiseIf (s := s.updList k _) h _ rfl

theorem endForNode (h : s.NoticesShaped) (reason : EndReason) : (endForNode reason k s).NoticesShaped := by
  unfold Machine.endForNode
  split
  · exact h.endRun _
  · exact h.endRun _
  · exact h.disarm _
  · exact h
  · exact h

theorem endAllLists (h : s.NoticesShaped) (reason : EndReason) : (endAllLists reason s).NoticesShaped := by
  have ended := foldl_keeps (P := NoticesShaped) (fun _ k ht => endForNode (k := k) ht reason) allLists s h
  exact ended.of_nq (makeGrant_nq _)

theorem departRun (h : s.NoticesShaped) (target : NodeState) (reason : EndReason) :
    (departRun target reason s).NoticesShaped := by
  have ended := endAllLists (s := { s with nc := { s.nc with state := target, timer := none } }) h reason
  unfold Machine.departRun
  dsimp only
  generalize Machine.endAllLists reason _ = u at ended ⊢
  exact ended

theorem enterSafe (h : s.NoticesShaped) : (enterSafe s).NoticesShaped := by
  have written (t : State) : (safeWrite t).nq = t.nq := by rw [safeWrite_eq]
  exact ((h.departRun ..).of_nq (written _)).raise rfl

theorem fireFront (h : s.NoticesShaped) : (fireFront s).NoticesShaped := by
  unfold Machine.fireFront
  split
  · exact h
  · next e rest _ =>
    have effect : (actionEffect e s).NoticesShaped := by
      unfold actionEffect
      split
      · exact h
      · exact h.takeTrigger _
    exact effect.raiseIf e.notify (b := .actionFired e.handle e.action e.repeatsAfter) rfl

/-! ### The owners -/

theorem ownStartList {b body : List Byte} (h : s.NoticesShaped) (e : ownStartList b s = .accept body t) :
    t.NoticesShaped := by
  have replied : ∀ {k n} {u : State}, u.NoticesShaped → startReply k n u = .accept body t → t.NoticesShaped :=
    fun hu e => by cases e; exact hu
  unfold Machine.ownStartList at e
  split at e
  · cases e
  · split at e
    · cases e
    · split at e
      · cases e
      · cases e
      · split at e
        · exact replied h.startRun e
        · exact replied (u := armList _ s) h e
      · exact replied h e
      · split at e
        · exact replied (h.retrigger _) e
        · cases e
      · split at e
        · exact replied (h.retrigger _) e
        · cases e

theorem stopNow {body : List Byte} (h : s.NoticesShaped) (e : stopNow k s = .accept body t) :
    t.NoticesShaped := by
  unfold Machine.stopNow stopReply at e
  split at e <;> cases e
  · exact (h.endRun _).of_nq (makeGrant_nq _)
  · exact (h.endRun _).of_nq (makeGrant_nq _)
  · exact h.disarm _
  · exact h
  · exact h

theorem ownStopList {b body : List Byte} (h : s.NoticesShaped) (e : ownStopList b s = .accept body t) :
    t.NoticesShaped := by
  unfold Machine.ownStopList at e
  split at e
  · cases e
  · exact h.stopNow e
  · unfold stopFinish at e
    split at e
    · cases e; exact h
    all_goals exact h.stopNow e
  · cases e

theorem restartTimer (h : s.NoticesShaped) : (restartTimer s).NoticesShaped := by
  unfold Machine.restartTimer
  split <;> exact h

/-- POLL acknowledges and then delivers (08 R133, R134). -/
theorem ownPoll {b body : List Byte} (h : s.NoticesShaped) (e : ownPoll b s = .accept body t) :
    t.NoticesShaped := by
  unfold Machine.ownPoll at e
  dsimp only at e
  split at e <;> cases e
  exact (NoticeQueue.Shaped.acknowledge h _ _).deliver _

/-- What an owner accepts keeps the shape. -/
theorem owner {k : Kind} {b body : List Byte} (h : s.NoticesShaped) (e : owner k b s = .accept body t) :
    t.NoticesShaped := by
  cases k with
  | identify | echo | status | readStamp | outputStatus | fifoStatus | restart | readLatest | clearFifo =>
    cases e; exact h
  | mark => cases e; exact h.logEntry _
  | setChannel | readSteps | listStatus | readFifo | setFifoLevel | clearWatch | watchStatus | readCaptures
  | scheduleStatus =>
    simp only [Machine.owner, ownSetChannel, ownReadSteps, ownListStatus, ownReadFifo, ownSetFifoLevel,
      ownClearWatch, ownWatchStatus, ownReadCaptures, ownScheduleStatus] at e
    split at e <;> cases e
    exact h
  | setWatch | clearList | cancelAction =>
    simp only [Machine.owner, ownSetWatch, ownClearList, ownCancelAction] at e
    split at e
    · cases e
    · split at e <;> cases e
      exact h
  | writeSteps | defineList =>
    simp only [Machine.owner, ownWriteSteps, ownDefineList] at e
    split at e
    · cases e
    · split at e
      · cases e
      · split at e <;> cases e
        exact h
  | setCapture =>
    simp only [Machine.owner, ownSetCapture] at e
    split at e <;> cases e
    exact foldl_keeps (P := NoticesShaped) (fun _ _ hu => by split <;> exact hu) _ _ h
  | setOutput =>
    simp only [Machine.owner, ownSetOutput] at e
    split at e
    · cases e
    · split at e <;> cases e
      exact foldl_keeps (P := NoticesShaped) (fun _ _ hu => by split <;> exact hu) _ _ h
  | setSafeLevels =>
    simp only [Machine.owner, ownSetSafeLevels] at e
    split at e <;> cases e
    refine foldl_keeps (P := NoticesShaped) (fun _ _ hu => ?_) _ _ h
    split
    · split <;> exact hu
    · exact hu
  | go =>
    simp only [Machine.owner, ownGo] at e
    split at e <;> cases e
    · exact h
    · exact restartTimer (s := { s with nc := _ }) h
  | halt =>
    simp only [Machine.owner, ownHalt] at e
    split at e <;> cases e
    · exact h.departRun _ _
    · exact h
    · exact h
  | setSilence =>
    simp only [Machine.owner, ownSetSilence] at e
    split at e <;> cases e
    split
    · exact h
    · exact restartTimer (s := { s with nc := _ }) h
  | convert =>
    simp only [Machine.owner, ownConvert] at e
    split at e
    · cases e
    · split at e
      · cases e
      · split at e <;> cases e
        exact h.of_nq (afterPlacing_nq _)
  | cancelConvert =>
    rw [Machine.owner, ownCancelConvert_eq] at e
    split at e
    · cases e
    · split at e
      · cases e; exact h
      · split at e <;> cases e
        · exact h.of_nq (makeGrant_nq _)
        · exact h
  | startList => exact h.ownStartList e
  | stopList => exact h.ownStopList e
  | schedule =>
    simp only [Machine.owner, ownSchedule] at e
    split at e
    · cases e
    · split at e
      · cases e
      · split at e
        · cases e
        · split at e <;> cases e
          exact h
  | poll => exact h.ownPoll e

end State.NoticesShaped

/-! ### Every block -/

/-- A reset empties the queue and raises STARTED (11 R170, R179). -/
theorem raiseStarted_shaped (empty : s.nq = .reset) : (raiseStarted s).NoticesShaped := by
  have shaped : s.NoticesShaped := by
    unfold State.NoticesShaped
    rw [empty]
    exact NoticeQueue.reset_shaped
  exact shaped.raise rfl

/-- Every block's part of a step keeps the shape. -/
theorem noticesShaped_blocks : KeptByBlocks State.NoticesShaped where
  queue _ _ h := h
  free _ h := h
  line _ _ h := h
  hand _ _ h := h
  timer _ h := h.restartTimer
  owner _ _ _ _ _ h e := h.owner e
  tick s h := by
    unfold tick
    split <;> exact h
  por straps s _ := by
    unfold por
    split
    · exact NoticeQueue.reset_shaped
    · exact raiseStarted_shaped rfl
  pinReset s h := by
    unfold pinReset
    split
    · exact h
    · exact NoticeQueue.reset_shaped
  pinRelease straps s h := by
    unfold pinRelease
    split
    · exact raiseStarted_shaped rfl
    · exact h
  softReset _ _ := raiseStarted_shaped rfl
  calibrationEnd s h := by
    unfold calibrationEnd
    split
    · exact State.whenDue_keeps h fun d => State.NoticesShaped.of_nq h (makeGrant_nq _)
    · exact h
  checkEnd _ _ s h := by
    unfold checkEnd
    split
    · exact State.whenDue_keeps h fun _ => h
    · exact h
  settleEnd s h := by
    unfold settleEnd
    split
    · exact State.whenDue_keeps h fun _ => h
    · exact h
  sampleEnd level s h := by
    unfold sampleEnd
    split
    · exact State.whenDue_keeps h fun d => State.NoticesShaped.endSample (s := s.advance d) h _ level
    · exact h
  waitExpiry k s h := by
    unfold waitExpiry
    split
    · exact State.whenDue_keeps h fun d => State.NoticesShaped.finishStep (s := s.advance d) h
    · exact h
  awaitTimeout k s h := by
    unfold awaitTimeout
    split
    · exact State.whenDue_keeps h fun d => State.NoticesShaped.endRun (s := s.advance d) h _
    · exact h
  restStamp k s h := by
    unfold restReached
    split
    · exact State.whenDue_keeps h fun d => State.NoticesShaped.of_nq h (beginStep_nq ..)
    · exact h
  capturePinChange k v s h := by
    unfold capturePinChange
    split
    · exact h
    · split
      · exact h
      · exact State.NoticesShaped.pinChanged (s := s.setPin k v) h k v
  debounceEnd k s h := by
    unfold debounceEnd
    split
    · split
      · exact State.whenDue_keeps h fun d =>
          State.NoticesShaped.acceptEdge (s := (s.advance d).updInput ..) h k _ _
      · exact h
    · exact h
  actionFiring s h := State.whenDue_keeps h fun d => State.NoticesShaped.fireFront (s := s.advance d) h
  silenceExpiry s h := State.whenDue_keeps h fun d => State.NoticesShaped.enterSafe (s := s.advance d) h

/-- Settles O54: every block keeps the shape, so every step does. -/
theorem stepKeepsNoticeQueueShape : Obligations.StepKeepsNoticeQueueShape := fun _ _ h e =>
  noticesShaped_blocks.step h e

end

end Sys2Proof.Machine
end

section
/-! What becomes of a frame on its way in: a gap in each receiver state, a host's whole frame received,
skipped or not heard, and a good frame taken by the Request Handler, answered from the cache, refused
KIND, or set aside (09 R143 to R153, 10 R161 to R167). -/

namespace Sys2Proof.Machine

/-! ### The address of a frame -/

/-- No node's own address is the broadcast address (10 R157). -/
theorem ne_broadcast_of_addressedTo {t : Straps} {a : Byte} (h : addressedTo t a = true) : a ≠ 31 := by
  rintro rfl
  simp [addressedTo] at h
  omega

/-! ### A gap -/

/-- A receiver that is off finds no gap (10 R167, log 14). -/
theorem gap_off {s : State} (hx : s.li.rx = .off) : gap s = s := by
  simp [gap, hx]

/-- A frame that ends while a request is in hand is an overrun (10 R164). -/
theorem endFrame_overrun {buf : List Byte} {s : State} (h : s.rh.inHand.isSome = true) :
    endFrame buf s = s.count fun c => { c with overrun := saturate (c.overrun + 1) } := by
  simp [endFrame, h]

/-- A frame whose length check fails is malformed (10 R165). -/
theorem endFrame_malformed {buf : List Byte} {s : State} (h : s.rh.inHand = none)
    (hl : frameLengthOk buf = false) :
    endFrame buf s = s.count fun c => { c with malformed := saturate (c.malformed + 1) } := by
  simp [endFrame, h, hl]

/-- A frame of the right length whose check fails is counted (10 R165). -/
theorem endFrame_check {buf : List Byte} {s : State} (h : s.rh.inHand = none)
    (hl : frameLengthOk buf = true) (hc : frameCheckOk buf = false) :
    endFrame buf s = s.count fun c => { c with check := saturate (c.check + 1) } := by
  simp [endFrame, h, hl, hc]

/-- The length check of R165 on the characters themselves. -/
theorem frameLengthOk_iff (buf : List Byte) :
    frameLengthOk buf = true ↔ 6 ≤ buf.length ∧ (buf.getD 3 0).toNat = buf.length - 6 := by
  simp [frameLengthOk, byteAt]

/-- The check of R160 on the characters themselves: the last two carry the CRC, high byte first. -/
theorem frameCheckOk_iff {buf : List Byte} (h : 6 ≤ buf.length) :
    frameCheckOk buf = true ↔ (crcOf (buf.take (buf.length - 2))).toNat =
      (buf.getD (buf.length - 2) 0).toNat * 256 + (buf.getD (buf.length - 1) 0).toNat := by
  have carried : (frameOf buf).crc.toNat =
      (buf.getD (buf.length - 2) 0).toNat * 256 + (buf.getD (buf.length - 1) 0).toNat := by
    have last : buf.length - 2 + 1 = buf.length - 1 := by omega
    have word := wordAt_lt buf (buf.length - 2)
    simp only [frameOf, BitVec.toNat_ofNat]
    rw [Nat.mod_eq_of_lt word, wordAt, last]
    rfl
  rw [← carried, frameCheckOk, beq_iff_eq, BitVec.toNat_inj]

/-! ### A good frame taken -/

/-- A good frame that ends with no request in hand reaches the Request Handler (10 R165). -/
theorem gap_delivered {s : State} {a c kind : Byte} {b : List Byte} (hr : s.resetHeld = false)
    (hh : s.rh.inHand = none) (hb : b.length ≤ 240)
    (hx : s.li.rx = .receiving (sealFrame a c kind b).chars) :
    gap s = if a == broadcastAddress then takeBroadcast (sealFrame a c kind b) s.heard
      else takeAddressed (sealFrame a c kind b) s.heard := by
  have length : frameLengthOk (sealFrame a c kind b).chars = true := frameLengthOk_chars _ hb
  have free : (s.setRx .ready).rh.inHand.isSome = false := by simp [hh]
  rw [gap_receiving s _ hr hx]
  unfold endFrame deliverFrame
  simp only [free, length, frameCheckOk_seal, frameOf_chars, Bool.not_true, Bool.false_eq_true, if_false,
    heard_eq]
  rfl

/-- What is chosen for a node's own address is not what is chosen for a broadcast (09 §9.4). -/
theorem ite_addressed {α : Type} {t : Straps} {a : Byte} (h : addressedTo t a = true) (x y : α) :
    (if a == broadcastAddress then x else y) = y :=
  if_neg (by simpa [broadcastAddress] using ne_broadcast_of_addressedTo h)

/-- What is chosen for a broadcast (09 §9.4). -/
theorem ite_broadcast {α : Type} {a : Byte} (h : a = 31) (x y : α) :
    (if a == broadcastAddress then x else y) = x :=
  if_pos (beq_iff_eq.mpr h)

/-- A frame that matches the reply cache is answered from it, with the top bit of the control character
set and the CRC computed afresh, and the cache stays (09 R150, R151). -/
theorem takeAddressed_cached {s : State} {f : Frame} {c : CacheEntry} (hc : s.rh.cache = some c)
    (hseq : c.seq = f.seq) (hcrc : c.crc = f.crc) :
    takeAddressed f s = { s with
      rh := { inHand := some (f, .replying), cache := some c }
      li := { s.li with
        tx := .turnaround
          (sealFrame c.reply.address (c.reply.control ||| 0x80) c.reply.kind c.reply.body) } } := by
  have hit : c.matches f = true := by simp [CacheEntry.matches, hseq, hcrc]
  unfold takeAddressed
  rw [hc]
  exact (if_pos hit).trans (by rw [← hc]; rfl)

/-- A frame that does not match the reply cache is executed (09 R143, R150). -/
theorem takeAddressed_unanswered {s : State} {f : Frame} (h : s.cacheAnswers f = false) :
    takeAddressed f s = executeAddressed f s := by
  unfold takeAddressed
  unfold State.cacheAnswers at h
  split
  · next c hc =>
    rw [hc] at h
    exact if_neg (by rw [show c.matches f = false from h]; exact Bool.false_ne_true)
  · rfl

/-- A frame of a kind that no request has is refused KIND by the first check (09 R146). -/
theorem decideRequest_unknown {f : Frame} (h : kindOf f.kind = none) (s : State) :
    decideRequest f s = .refuse .kind 0 := by
  simp [decideRequest, h]

/-- An addressed frame that is refused is answered with the refusal, which is cached (09 R147, R151). -/
theorem executeAddressed_refused {f : Frame} {s : State} {reason : Reason} {detail : Nat}
    (h : decideRequest f (s.hold (some (f, .executing))) = .refuse reason detail) :
    executeAddressed f s = ((s.hold (some (f, .executing))).cache f
      (refusalFrame s.li.straps f reason detail)).send f (refusalFrame s.li.straps f reason detail) := by
  unfold executeAddressed
  dsimp only
  rw [h]
  rfl

/-- What an addressed frame of a kind that no request has leaves, not answered from the cache: the
refusal KIND with detail 0 (09 R144 to R147). -/
theorem takeAddressed_unknown {r : Req} {code : Byte} {s : State} (unknown : kindOf code = none)
    (unanswered : s.cacheAnswers (sealFrame r.address r.control code r.body) = false) :
    takeAddressed (sealFrame r.address r.control code r.body) s.heard = { s.heard with
      rh := { inHand := some (sealFrame r.address r.control code r.body, .replying)
              cache := some { seq := r.control.setWidth 4
                              crc := (sealFrame r.address r.control code r.body).crc
                              reply := answerFrame r s 255 [code, 2, 0] } }
      li := { s.heard.li with tx := .turnaround (answerFrame r s 255 [code, 2, 0]) } } := by
  have reply : refusalFrame s.heard.li.straps (sealFrame r.address r.control code r.body) .kind 0 =
      answerFrame r s 255 [code, 2, 0] := by
    unfold refusalFrame answerFrame
    rw [replyControl_eq]
    rfl
  have decided := decideRequest_unknown (f := sealFrame r.address r.control code r.body) unknown
  rw [takeAddressed_unanswered (s := s.heard) unanswered, executeAddressed_refused (decided _), reply]
  rfl

/-- A broadcast of a kind that is not eligible is set aside and counted (09 R153). -/
theorem takeBroadcast_setAside {f : Frame} (h : eligible f.kind = false) (s : State) :
    takeBroadcast f s = s.count fun c => { c with ignored := saturate (c.ignored + 1) } := by
  simp [takeBroadcast, h]

/-- A kind code that names no request is not eligible (09 R153). -/
theorem eligible_unknown {code : Byte} (h : kindOf code = none) : eligible code = false := by
  simp [eligible, h]

/-- The five kinds that may be sent as a broadcast (09 R153). -/
theorem broadcastEligible_iff (k : Kind) :
    broadcastEligible k = true ↔ k ∈ [Kind.mark, .go, .halt, .startList, .stopList] := by
  cases k <;> simp [broadcastEligible]

/-- A kind outside the five is not eligible (09 R153). -/
theorem eligible_kindCode {k : Kind} (h : k ∉ [Kind.mark, .go, .halt, .startList, .stopList]) :
    eligible (kindCode k) = false := by
  rw [eligible, kindOf_kindCode]
  exact Bool.eq_false_iff.mpr fun five => h ((broadcastEligible_iff k).mp five)

/-! ### A host's whole frame -/

/-- A frame for this node, or for all, is in the receiver's buffer when its second gap comes
(10 R162, log 1). -/
theorem hostSends_received {k : Kind} {r : Req} {s : State} (hr : s.resetHeld = false)
    (hx : s.li.rx.betweenFrames = true) (hb : r.body.length ≤ 240)
    (ha : addressedTo s.li.straps r.address = true ∨ r.address = broadcastAddress) :
    hostSends k r s = endFrame (requestFrame k r).chars (s.setRx .ready) := by
  obtain ⟨cs, hc, hl⟩ := requestFrame_chars k r
  rw [hostSends, gap_between s hr (betweenFrames_cases hx), hc,
    receiveAll_ready r.address cs (s.setRx .ready) hr rfl (by rw [ownAddress_eq]; exact ha) (by omega),
    gap_receiving ((s.setRx .ready).setRx (.receiving (r.address :: cs))) (r.address :: cs) hr rfl]
  rfl

/-- A frame for another node is skipped, whatever its length (10 R162, R163). -/
theorem hostSends_skipped {k : Kind} {r : Req} {s : State} (hr : s.resetHeld = false)
    (hx : s.li.rx.betweenFrames = true) (ha : addressedTo s.li.straps r.address = false)
    (hn : r.address ≠ broadcastAddress) : hostSends k r s = s.setRx .ready := by
  obtain ⟨cs, hc, -⟩ := requestFrame_chars k r
  have first : characterComplete r.address true (s.setRx .ready) = s.setRx .skipping := by
    simp [characterComplete, hr, receive, ownAddress_eq, ha, hn]
  have rest : receiveAll (r.address :: cs) (s.setRx .ready) = s.setRx .skipping := by
    rw [receiveAll, List.foldl_cons, first]
    exact receiveAll_ignored cs _ (.inr (.inl rfl))
  rw [hostSends, gap_between s hr (betweenFrames_cases hx), hc, rest]
  exact gap_between (s.setRx .skipping) hr (.inr (.inr (.inl rfl)))

/-- While the transmitter sends, a host's frame is not heard (10 R167, log 14). -/
theorem hostSends_off {k : Kind} {r : Req} {s : State} (hx : s.li.rx = .off) : hostSends k r s = s := by
  rw [hostSends, gap_off hx, receiveAll_ignored _ s (.inr (.inr (.inr hx))), gap_off hx]

/-- The gap that ends a request's frame does what the request's own command does from READY (log 1). -/
theorem gap_requestFrame {k : Kind} {r : Req} {s : State} (hr : s.resetHeld = false)
    (hx : s.li.rx = .receiving (requestFrame k r).chars) (hb : r.body.length ≤ 240)
    (ha : addressedTo s.li.straps r.address = true ∨ r.address = broadcastAddress) :
    gap s = hostSends k r (s.setRx .ready) := by
  rw [gap_receiving s _ hr hx, hostSends_received (s := s.setRx .ready) hr rfl hb ha]
  rfl

/-! ### The obligations -/

/-- Settles O10. -/
theorem requestIsDecidedByOwner : Obligations.RequestIsDecidedByOwner :=
  fun _ _ _ _ request hears => exec_hears request hears

/-- Settles O11. -/
theorem unknownKindIsRefused : Obligations.UnknownKindIsRefused := by
  intro r code s running free body unknown addressed unanswered receiving
  refine ⟨_, _, congrArg Host.Outcome.next ?_, rfl, rfl⟩
  rw [gap_delivered running free body receiving, ite_addressed addressed,
    takeAddressed_unknown unknown unanswered]

/-- Settles O12. -/
theorem matchingFrameIsAnsweredFromCache : Obligations.MatchingFrameIsAnsweredFromCache := by
  intro i k r s c request free addressed cached seq crc
  have mine : addressedTo s.li.straps (requestFrame k r).address = true := addressed
  rw [exec_request i k r s request, hostSends_delivered k r s free (.inl addressed), ite_addressed mine,
    takeAddressed_cached (s := s.heard) (f := requestFrame k r) cached seq crc]

/-- Settles O13: set aside, skipped, an overrun, and not heard. -/
theorem requestsNotExecuted : Obligations.RequestsNotExecuted := by
  intro i k r s request running
  rw [exec_request i k r s request]
  refine ⟨fun free all kind => congrArg Host.Outcome.next ?setAside,
    fun between other notAll => congrArg Host.Outcome.next (hostSends_skipped running between other notAll),
    fun between inHand body mine => congrArg Host.Outcome.next ?overrun,
    fun off => congrArg Host.Outcome.next (hostSends_off off)⟩
  case setAside =>
    have toAll : (requestFrame k r).address = 31 := all
    rw [hostSends_delivered k r s free (.inr all), ite_broadcast toAll,
      takeBroadcast_setAside (eligible_kindCode kind)]
    rfl
  case overrun =>
    rw [hostSends_received running between body mine, endFrame_overrun (s := s.setRx .ready) inHand]
    rfl

/-- Settles O7: outside a frame, and then each fate of a frame. -/
theorem gapEndsFrame : Obligations.GapEndsFrame := by
  intro s running
  refine ⟨fun off => congrArg Host.Outcome.next (gap_off off),
    fun between => congrArg Host.Outcome.next (gap_between s running (betweenFrames_cases between)),
    fun buffer receiving => ?_⟩
  have ended : exec .gap s = .next (endFrame buffer (s.setRx .ready)) :=
    congrArg Host.Outcome.next (gap_receiving s buffer running receiving)
  refine ⟨fun inHand => ?overrun, fun free wrong => ?malformed, fun free six length wrong => ?check,
    fun i k r request body mine sent => ?request, fun r code free body all unknown sent => ?setAside,
    fun r code c free body addressed sent cached seq crc => ?cached⟩
  case overrun =>
    rw [ended, endFrame_overrun (s := s.setRx .ready) inHand]
    rfl
  case malformed =>
    have bad : frameLengthOk buffer = false := by
      rw [Bool.eq_false_iff, ne_eq, frameLengthOk_iff]
      omega
    rw [ended, endFrame_malformed (s := s.setRx .ready) free bad]
    rfl
  case check =>
    have bad : frameCheckOk buffer = false := by
      rwa [Bool.eq_false_iff, ne_eq, frameCheckOk_iff six]
    rw [ended, endFrame_check (s := s.setRx .ready) free ((frameLengthOk_iff _).mpr ⟨six, length⟩) bad]
    rfl
  case request =>
    subst sent
    rw [exec_request i k r _ request]
    exact congrArg Host.Outcome.next (gap_requestFrame running receiving body mine)
  case setAside =>
    subst sent
    refine congrArg Host.Outcome.next ?_
    rw [gap_delivered running free body receiving, ite_broadcast all,
      takeBroadcast_setAside (eligible_unknown unknown)]
    rfl
  case cached =>
    subst sent
    refine congrArg Host.Outcome.next ?_
    rw [gap_delivered running free body receiving, ite_addressed addressed,
      takeAddressed_cached (s := s.heard) (f := sealFrame r.address r.control code r.body) cached seq crc]

end Sys2Proof.Machine
end

section
/-! The reset pin: what a PIN or POR reset puts in every block does not depend on what was there, nor on
how often the node takes it before the pin is released (11 R170). -/

namespace Sys2Proof.Machine

/-- A reset taken on a node that already holds one leaves what the later one leaves (11 R170). -/
theorem hardReset_hardReset (cause earlier : ResetCause) (s : State) :
    hardReset cause (hardReset earlier s) = hardReset cause s := rfl

/-- A reset with the pin driven or not differs in nothing else (11 R170). -/
theorem endHardReset_resetHeld (straps : Straps) (b : Bool) (s : State) :
    endHardReset straps { s with resetHeld := b } = endHardReset straps s := rfl

/-- A reset ends as a POR ends, but for the cause the node holds and STARTED's record of it
(10 R157, 06 R98, 11 R170). -/
theorem endHardReset_eq_por (straps : Straps) (s : State) :
    endHardReset straps s =
      { endHardReset straps (hardReset .power s) with
        nc := { (endHardReset straps (hardReset .power s)).nc with cause := s.nc.cause }
        nq := { (endHardReset straps (hardReset .power s)).nq with notices :=
          [{ seq := 1, stamp := 0, body := .started s.nc.cause straps, delivered := false }] } } := rfl

/-- A POR on a node whose pin is not driven is whole at once (11 R170). -/
theorem por_running (straps : Straps) {s : State} (h : s.resetHeld = false) :
    por straps s = endHardReset straps (hardReset .power s) := by simp [por, h]

/-- A POR on a held node leaves it held (11 R170, log 12). -/
theorem por_held (straps : Straps) {s : State} (h : s.resetHeld = true) :
    por straps s = hardReset .power s := by simp [por, h]

/-- The pin driven on a running node holds it, with cause PIN (11 R170). -/
theorem pinReset_running {s : State} (h : s.resetHeld = false) :
    pinReset s = { hardReset .pin s with resetHeld := true } := by simp [pinReset, h]

/-- A pin already driven stays so (log 12). -/
theorem pinReset_held {s : State} (h : s.resetHeld = true) : pinReset s = s := by simp [pinReset, h]

/-- The pin released ends the reset that held the node (11 R170). -/
theorem pinRelease_held (straps : Straps) {s : State} (h : s.resetHeld = true) :
    pinRelease straps s = endHardReset straps s := by simp [pinRelease, h]

/-- A release without the pin driven does nothing (log 12). -/
theorem pinRelease_running (straps : Straps) {s : State} (h : s.resetHeld = false) :
    pinRelease straps s = s := by simp [pinRelease, h]

end Sys2Proof.Machine

namespace Sys2Proof.Laws

open Sys2Proof.Machine

/-- Settles O3: the pin driven and released, a held node released, the pin driven again, a POR on a held
node, and a stray release. -/
theorem pinReset : Obligations.PinReset := by
  refine ⟨fun s running => ?driven, fun straps s held => ?released,
    fun s held => congrArg Host.Outcome.next (pinReset_held held),
    fun straps straps' s held => ?porHeld,
    fun straps s running => congrArg Host.Outcome.next (pinRelease_running straps running)⟩
  case driven =>
    refine ⟨_, congrArg Host.Outcome.next (pinReset_running running), rfl, rfl, rfl, rfl, rfl, rfl, rfl, rfl,
      rfl, fun straps => ⟨_, congrArg Host.Outcome.next (por_running straps running), ?_⟩⟩
    refine congrArg Host.Outcome.next ?_
    rw [pinRelease_held straps rfl, endHardReset_resetHeld, endHardReset_eq_por, hardReset_hardReset]
    rfl
  case released =>
    refine ⟨_, congrArg Host.Outcome.next (por_running straps rfl), congrArg Host.Outcome.next ?_⟩
    rw [pinRelease_held straps held, endHardReset_eq_por]
    rfl
  case porHeld =>
    refine ⟨_, _, congrArg Host.Outcome.next (por_held straps held), held,
      congrArg Host.Outcome.next (por_running straps' rfl), congrArg Host.Outcome.next ?_⟩
    rw [pinRelease_held straps' (s := hardReset .power s) held]
    exact (endHardReset_resetHeld straps' false (hardReset .power s)).symm

end Sys2Proof.Laws
end

section
/-! The line itself: the characters of a request frame read back, what each character does to the
receiver, and what the beginning of a sending does to it (10 R159 to R169). -/

namespace Sys2Proof.Machine

/-! ### A character in each receiver state -/

/-- What a character does to the receiver of a node that is not held, and to a counter (10 R158). -/
theorem characterComplete_running (value : Byte) (good : Bool) {s : State} (h : s.resetHeld = false) :
    characterComplete value good s = (s.setRx (receive s.li.straps s.li.rx value good).1).count
      (receive s.li.straps s.li.rx value good).2 := by
  simp [characterComplete, h]

/-- A receiver neither READY nor in a frame takes no character, good or bad (10 R161, R163, R167). -/
theorem characterComplete_outside (value : Byte) (good : Bool) {s : State} (h : s.resetHeld = false)
    (hx : s.li.rx = .syncing ∨ s.li.rx = .skipping ∨ s.li.rx = .discarding ∨ s.li.rx = .off) :
    characterComplete value good s = s := by
  have same : receive s.li.straps s.li.rx value good = (s.li.rx, id) := by
    rcases hx with hx | hx | hx | hx <;> rw [hx] <;> rfl
  rw [characterComplete_running value good h, same]
  rfl

/-- A framing error where a character is awaited discards the frame and is counted (10 R162, R169). -/
theorem characterComplete_framing (value : Byte) {s : State} (h : s.resetHeld = false)
    (hx : s.li.rx = .ready ∨ ∃ buf, s.li.rx = .receiving buf) :
    characterComplete value false s =
      (s.setRx .discarding).count fun c => { c with framing := saturate (c.framing + 1) } := by
  rw [characterComplete_running value false h]
  rcases hx with hx | ⟨buf, hx⟩ <;> rw [hx] <;> rfl

/-- A first good character begins a frame or has it skipped, by its address (10 R162). -/
theorem characterComplete_first (value : Byte) {s : State} (h : s.resetHeld = false) (hx : s.li.rx = .ready) :
    characterComplete value true s =
      if addressedTo s.li.straps value = true ∨ value = 31 then s.setRx (.receiving [value])
      else s.setRx .skipping := by
  have own : (ownAddress s.li.straps value || value == broadcastAddress) = true ↔
      addressedTo s.li.straps value = true ∨ value = 31 := by
    simp [ownAddress_eq, broadcastAddress]
  rw [characterComplete_running value true h, hx]
  simp only [receive, own]
  split <;> rfl

/-- A good character past the 246 of the longest frame discards it as malformed (10 R162, R169). -/
theorem characterComplete_overlong (value : Byte) {s : State} {buf : List Byte} (h : s.resetHeld = false)
    (hx : s.li.rx = .receiving buf) (full : ¬ buf.length < 246) :
    characterComplete value true s =
      (s.setRx .discarding).count fun c => { c with malformed := saturate (c.malformed + 1) } := by
  have tooLong : receive s.li.straps (.receiving buf) value true =
    (.discarding, fun c => { c with malformed := saturate (c.malformed + 1) }) := if_neg full
  rw [characterComplete_running value true h, hx, tooLong]

/-! ### The beginning of a sending -/

/-- A sending cuts a frame being received short as an overrun (10 R164, R167). -/
theorem sendingStart_cuts {s : State} {reply : Frame} {buf : List Byte} (ht : s.li.tx = .turnaround reply)
    (hx : s.li.rx = .receiving buf) :
    sendingStart s = ((s.count fun c => { c with overrun := saturate (c.overrun + 1) }).setRx .off).setTx
      (.sending reply) := by
  simp [sendingStart, ht, hx]

/-- A sending lets everything but a frame being received go uncounted (10 R167). -/
theorem sendingStart_lets_go {s : State} {reply : Frame} (ht : s.li.tx = .turnaround reply)
    (hx : ∀ buf, s.li.rx ≠ .receiving buf) :
    sendingStart s = (s.setRx .off).setTx (.sending reply) := by
  unfold sendingStart
  rw [ht]
  dsimp only
  split
  · next buf receiving => exact absurd receiving (hx buf)
  · rfl

/-- Nothing is sent where no reply waits (log 13). -/
theorem sendingStart_nothing {s : State} (ht : ∀ reply, s.li.tx ≠ .turnaround reply) :
    sendingStart s = s := by
  unfold sendingStart
  split
  · next reply waits => exact absurd waits (ht reply)
  all_goals rfl

end Sys2Proof.Machine

namespace Sys2Proof.Laws

open Sys2Proof.Machine

/-- Settles O9: a sealed frame reads back from its characters and passes both checks of R165, and each
kind's code names that kind. -/
theorem requestFrameReadsBack : Obligations.RequestFrameReadsBack := by
  intro k r wellFormed
  have body : r.body.length ≤ 240 := by
    have checks : r.addressOk = true ∧ r.bodyOk = true := by simpa [Req.wellFormed] using wellFormed
    exact of_decide_eq_true checks.2
  have length : (requestFrame k r).chars.length = r.body.length + 6 := Frame.chars_length _
  have back : frameOf (requestFrame k r).chars = requestFrame k r := frameOf_chars _
  refine ⟨length, by omega, by omega, frameLengthOk_chars _ body, frameCheckOk_seal .., ?_⟩
  rw [back]
  exact ⟨rfl, rfl, rfl, rfl, kindOf_kindCode k⟩

/-- Settles O6: each receiver state, and in READY and in a frame whether the character is good. -/
theorem characterReceived : Obligations.CharacterReceived := by
  intro s value good running
  refine congrArg Host.Outcome.next (?_ : characterComplete value good s = _)
  have outside := characterComplete_outside value good running
  cases hx : s.li.rx with
  | syncing => exact outside (.inl hx)
  | skipping => exact outside (.inr (.inl hx))
  | discarding => exact outside (.inr (.inr (.inl hx)))
  | off => exact outside (.inr (.inr (.inr hx)))
  | ready =>
    cases good with
    | false => exact characterComplete_framing value running (.inl hx)
    | true => exact characterComplete_first value running hx
  | receiving buf =>
    cases good with
    | false => exact characterComplete_framing value running (.inr ⟨buf, hx⟩)
    | true =>
      by_cases room : buf.length < 246
      · exact (characterComplete_receiving s value buf running hx room).trans (if_pos room).symm
      · exact (characterComplete_overlong value running hx room).trans (if_neg room).symm

/-- Settles O8: a reply that waits, by what the receiver is doing, and none that waits. -/
theorem sendingStarts : Obligations.SendingStarts := by
  refine fun s => ⟨fun reply waits => ?_, fun idle => congrArg Host.Outcome.next (sendingStart_nothing idle)⟩
  refine congrArg Host.Outcome.next (?_ : sendingStart s = _)
  cases hx : s.li.rx with
  | receiving buf => exact sendingStart_cuts waits hx
  | syncing | ready | skipping | discarding | off =>
    exact sendingStart_lets_go waits (by rw [hx]; nofun)

end Sys2Proof.Laws
end

section
/-! What the Node Controller makes of GO, RESTART and SET_SILENCE (11 R172, R177, R178). The silence timer
is written as a value of the state and the silence time, so that the timer a good frame restarts
(11 R175) and the one that a request then sets can be compared. -/

namespace Sys2Proof.Machine

/-! ### The silence timer -/

/-- The timer restarted in RUN with a silence time, and left alone otherwise (11 R175). -/
theorem restartTimer_eq (s : State) : restartTimer s = { s with nc := { s.nc with
    timer := if s.nc.state = .run ∧ s.nc.silence ≠ 0 then
      some (s.tcu.stamp + BitVec.ofNat 32 (1000 * s.nc.silence)) else s.nc.timer } } := by
  unfold restartTimer
  split <;> rfl

/-- The delivery of a frame touches nothing of the Node Controller outside RUN (11 R175). -/
theorem taken_nc_of_not_run {k : Kind} {r : Req} {s : State} (notRun : s.nc.state ≠ .run) :
    (s.taken k r).nc = s.nc := by
  simp [State.taken, State.heard, notRun]

/-- The timer that a new silence time leaves: stopped by 0, restarted in RUN, untouched outside it
(11 R177). -/
def State.timerFor (s : State) (time : Nat) : Option Stamp :=
  if time = 0 then none
  else if s.nc.state = .run then some (s.tcu.stamp + BitVec.ofNat 32 (1000 * time))
  else s.nc.timer

/-- The timer of a new silence time does not depend on the restart that the request's own frame made. -/
theorem timerFor_taken (k : Kind) (r : Req) (s : State) (time : Nat) :
    (s.taken k r).timerFor time = s.timerFor time := by
  by_cases run : s.nc.state = .run
  · have run' : (s.taken k r).nc.state = .run := run
    unfold State.timerFor
    rw [if_pos run, if_pos run']
    rfl
  · unfold State.timerFor
    rw [taken_nc_of_not_run run]
    rfl

/-! ### The owner's verdicts -/

/-- GO in RUN changes nothing (11 R172). -/
theorem ownGo_running {s : State} (run : s.nc.state = .run) : ownGo s = .accept [2, 1] s := by
  unfold ownGo
  rw [if_pos run, run]
  rfl

/-- GO from STANDBY or SAFE enters RUN and starts the timer where there is a silence time (11 R172). -/
theorem ownGo_enters {s : State} (notRun : s.nc.state ≠ .run) :
    ownGo s = .accept [1, if s.nc.state = .safe then 2 else 0] { s with nc := { s.nc with
      state := .run
      timer := if s.nc.silence = 0 then s.nc.timer
        else some (s.tcu.stamp + BitVec.ofNat 32 (1000 * s.nc.silence)) } } := by
  have before : u8 1 ++ u8 s.nc.state.code = [1, if s.nc.state = .safe then 2 else 0] := by
    cases state : s.nc.state with
    | run => exact absurd state notRun
    | standby | safe => rfl
  unfold ownGo
  rw [if_neg notRun, before, restartTimer_eq]
  simp only [true_and, ite_not]

/-- A silence time written, with the timer it calls for (11 R177). -/
theorem silenceWritten_eq (s : State) (time : Nat) :
    (if time = 0 then { s with nc := { s.nc with silence := time, timer := none } }
      else restartTimer { s with nc := { s.nc with silence := time } }) =
    { s with nc := { s.nc with silence := time, timer := s.timerFor time } } := by
  unfold State.timerFor
  by_cases zero : time = 0
  · rw [if_pos zero, if_pos zero]
  · rw [if_neg zero, if_neg zero, restartTimer_eq]
    simp only [ne_eq, zero, not_false_eq_true, and_true]

/-- SET_SILENCE refuses the times out of range, and else writes the time (11 R177). -/
theorem ownSetSilence_eq (b : List Byte) (s : State) : ownSetSilence b s =
    if (1 ≤ wordAt b 0 ∧ wordAt b 0 ≤ 9) ∨ 60000 < wordAt b 0 then .refuse .field 1
    else .accept
      (u16 (wordAt b 0) ++ u16 (match s.timerFor (wordAt b 0) with
        | none => 0
        | some e => (distance s.tcu.stamp e + 999) / 1000))
      { s with nc := { s.nc with silence := wordAt b 0, timer := s.timerFor (wordAt b 0) } } := by
  unfold ownSetSilence
  simp only [silenceWritten_eq, Bool.or_eq_true, Bool.and_eq_true, decide_eq_true_eq]
  rfl

/-- Settles O16: GO by the node state, RESTART, and SET_SILENCE by its time. -/
theorem goRestartSetSilence : Obligations.GoRestartSetSilence := by
  intro r s
  refine ⟨fun h empty => ?go, fun h empty => ?restart, fun h len => ?setSilence⟩
  case go =>
    have length : bodyLengthOk .go r.body = true := by simp [bodyLengthOk, empty]
    intro u
    by_cases run : s.nc.state = .run
    · rw [if_pos run]
      exact exec_accepts rfl h length (ownGo_running run)
    · rw [if_neg run]
      have verdict := ownGo_enters (s := s.taken .go r) run
      have timer : (s.taken .go r).nc.timer = s.nc.timer := by rw [taken_nc_of_not_run run]
      rw [timer] at verdict
      exact exec_accepts rfl h length verdict
  case restart => exact exec_accepts rfl h (by simp [bodyLengthOk, empty]) rfl
  case setSilence =>
    have verdict := ownSetSilence_eq r.body (s.taken .setSilence r)
    rw [timerFor_taken] at verdict
    exact exec_refusesOrAccepts rfl h (by simp [bodyLengthOk, len]) verdict

end Sys2Proof.Machine
end

section
/-! The state a POR leaves, and a node held in reset, which takes nothing from its line, its pins or its
timebase (11 R170). -/

namespace Sys2Proof.Machine

/-! ### POR -/

/-- Settles O2: the settings of the four capture inputs are reset one by one, each settled level its own
pin's; every other block is the constant of its chapter. -/
theorem powerOnReset : Obligations.PowerOnReset := by
  intro straps s running
  refine congrArg Host.Outcome.next ((por_running straps running).trans ?_)
  rw [← vecOf_eq_map s.tcu.pins]
  rfl

/-! ### Held in reset -/

section
variable {s : State} (held : s.resetHeld = true)
include held

/-- Whatever is due, it does not happen. -/
theorem State.whenDue_held (due : Option Stamp) (f : State → State) : s.whenDue due f = s := by
  cases due with
  | none => rfl
  | some d => exact State.whenDue_not f (.inl held)

theorem characterComplete_held (value : Byte) (good : Bool) : characterComplete value good s = s :=
  if_pos held

theorem gap_held : gap s = s := if_pos held

/-- A host's whole frame is lost, its characters and both its gaps (log 1). -/
theorem hostSends_held (k : Kind) (r : Req) : hostSends k r s = s := by
  unfold hostSends
  rw [gap_held held, receiveAll_held _ s held, gap_held held]

theorem calibrationEnd_held : calibrationEnd s = s := by
  unfold calibrationEnd
  split
  exacts [State.whenDue_held held _ _, rfl]

theorem checkEnd_held (charged discharged : BitVec 12) : checkEnd charged discharged s = s := by
  unfold checkEnd
  split
  exacts [State.whenDue_held held _ _, rfl]

theorem settleEnd_held : settleEnd s = s := by
  unfold settleEnd
  split
  exacts [State.whenDue_held held _ _, rfl]

theorem sampleEnd_held (level : BitVec 12) : sampleEnd level s = s := by
  unfold sampleEnd
  split
  exacts [State.whenDue_held held _ _, rfl]

theorem waitExpiry_held (k : Fin 8) : waitExpiry k s = s := by
  unfold waitExpiry
  split
  exacts [State.whenDue_held held _ _, rfl]

theorem awaitTimeout_held (k : Fin 8) : awaitTimeout k s = s := by
  unfold awaitTimeout
  split
  exacts [State.whenDue_held held _ _, rfl]

theorem restReached_held (k : Fin 8) : restReached k s = s := by
  unfold restReached
  split
  exacts [State.whenDue_held held _ _, rfl]

theorem debounceEnd_held (k : Fin 4) : debounceEnd k s = s := by
  unfold debounceEnd
  split
  · split
    · exact State.whenDue_held held _ _
    · rfl
  · rfl

theorem actionFiring_held : actionFiring s = s := State.whenDue_held held _ _

theorem silenceExpiry_held : silenceExpiry s = s := State.whenDue_held held _ _

/-- A pin that changes is noted in its level alone; one that stays is noted as it was (log 6). -/
theorem capturePinChange_held (k : Fin 4) (v : Level) : capturePinChange k v s = s.setPin k v := by
  unfold capturePinChange
  rw [if_pos held]
  split
  · next same =>
    have unchanged : s.tcu.pins.set k v = s.tcu.pins := by
      rw [← same]
      exact Vector.set_getElem_self k.isLt
    unfold State.setPin
    rw [unchanged]
  · rfl

end

/-- Settles O4: each command and event on a held node. -/
theorem heldNodeTakesNothing : Obligations.HeldNodeTakesNothing := by
  intro s held
  have inert {u : State} (same : u = s) : Host.Outcome.next u = (.next s : Host.Outcome State Fault Refusal) :=
    congrArg _ same
  refine ⟨fun i request => ?requests, fun value good => inert (characterComplete_held held value good),
    inert (gap_held held), fun i event => ?events,
    fun charged discharged => inert (checkEnd_held held charged discharged),
    fun level => inert (sampleEnd_held held level),
    fun k => ⟨inert (waitExpiry_held held k), inert (awaitTimeout_held held k), inert (restReached_held held k)⟩,
    fun k => inert (debounceEnd_held held k), fun k v => congrArg _ (capturePinChange_held held k v)⟩
  case requests =>
    obtain ⟨⟨k, r⟩, carries⟩ := Option.isSome_iff_exists.mp request
    rw [exec_request i k r s carries, hostSends_held held]
  case events =>
    simp only [List.mem_cons, List.not_mem_nil, or_false] at event
    rcases event with rfl | rfl | rfl | rfl
    · exact inert (calibrationEnd_held held)
    · exact inert (settleEnd_held held)
    · exact inert (actionFiring_held held)
    · exact inert (silenceExpiry_held held)

end Sys2Proof.Machine
end
